-- ==== Sys2Proof/Word.lean ====
section
/-! DEFINITION. The words of the block: 16-bit payloads and registers (spec/00_scope.md R14), 20-bit request words
(spec/30_encoding.md R90), and four like things indexed by slot (spec/00_scope.md R12). -/

namespace Sys2Proof

/-- A payload, a transport register, a FIFO word (R14: a word is 16 bits). -/
abbrev Word := BitVec 16

/-- One request word `req[19:0]` (R90). -/
abbrev ReqWord := BitVec 20

/-- The number of a slot, 0 to 3 (R12): the index of `incoming`, `timeouts`, `RXSLOT`, and the operand `peer` (R95). -/
abbrev SlotId := BitVec 2

/-- Four like things, one per slot (R12). -/
structure Slots (α : Type) where
  s0 : α
  s1 : α
  s2 : α
  s3 : α
deriving DecidableEq, Repr, Inhabited

end Sys2Proof
end

