-- ==== Sys2Proof/Syntax.lean ====
section
/-! DEFINITION. What can be presented to the block: the ten requests of the opcode table (spec/30_encoding.md R92),
the reserved words, the five kinds of step (spec/42_sync_mux.md R176), and the source syntax of requests and scripts
(spec/30_encoding.md R107, R108). -/

namespace Sys2Proof

/-- The ten operations, one constructor per row of spec/opcode_table.json. An operand is a bit vector of exactly the
width its encoding has, so every term is a well-formed instruction (R94, R95). -/
inductive Instr where
  | nop                        -- NOP, R191
  | activate                   -- ACTIVATE, R187
  | deactivate                 -- DEACTIVATE, R188
  | send (value : Word)        -- SEND, R237
  | isConnected                -- IS_CONNECTED, R238
  | hasMessage (peer : SlotId) -- HAS_MESSAGE, R239
  | readMessage (peer : SlotId) -- READ_MESSAGE, R240
  | evFrameSync                -- EV_FRAME_SYNC, R206
  | evSerial                   -- EV_SERIAL, R207
  | evTimer                    -- EV_TIMER, R215
deriving DecidableEq, Repr, Inhabited

/-- Why a request word is reserved: its opcode (R103), or non-zero reserved bits of its argument (R104). -/
inductive ReservedWord where
  | opcode (opc : BitVec 4)
  | argument (opc : BitVec 4) (arg : BitVec 16)
deriving DecidableEq, Repr

/-- The four request formats (R91). -/
inductive Format where
  | n
  | v
  | p
  | e
deriving DecidableEq, Repr

/-- One row of the opcode map (R92): a word `w` selects it when `w & mask = pattern`. -/
structure OpcodeRow where
  mnemonic : String
  format : Format
  pattern : ReqWord
  mask : ReqWord
deriving DecidableEq, Repr

/-- New values of the transport-owned fields, and the transport's setting or clearing of `CTRL.start`
(spec/42_sync_mux.md R171). A field not named keeps its value (spec/30_encoding.md R108, `ENV`; log 19). -/
structure EnvUpdate where
  rxslot : Option (Slots Word) := none
  secondary : Option Bool := none
  ready : Option Bool := none
  id : Option SlotId := none
  error : Option Bool := none
  start : Option Bool := none
deriving DecidableEq, Repr, Inhabited

/-- What the external owner may write while the block is Inactive (spec/42_sync_mux.md R172): every owner-written
field of the transport, and the timer port. A field not named keeps its value (log 20). -/
structure ExtUpdate where
  txdata : Option Word := none
  mode : Option Word := none
  start : Option Bool := none
  multi : Option Bool := none
  other : Option Word := none
  tmrReload : Option Word := none
  tmrEn : Option Bool := none
  tmrIrqEn : Option Bool := none
deriving DecidableEq, Repr, Inhabited

/-- The steps by which one instance of the block moves, with their labels (spec/42_sync_mux.md R176). -/
inductive StepLabel where
  | req (w : ReqWord)    -- `Req(w)`
  | retire               -- `Retire`, R162
  | env (u : EnvUpdate)  -- `Env(u)`, R171
  | ext (u : ExtUpdate)  -- `Ext(u)`, R172
  | rst                  -- `Rst`, R192
deriving DecidableEq, Repr, Inhabited

/-- The mnemonics of R92. -/
inductive Mnemonic where
  | nop
  | activate
  | deactivate
  | send
  | isConnected
  | hasMessage
  | readMessage
  | evFrameSync
  | evSerial
  | evTimer
deriving DecidableEq, Repr

/-- One request line of a script as it is written: the mnemonic, then at most one operand, a number (R107). -/
structure AsmRequest where
  mnemonic : Mnemonic
  operand : Option Nat
deriving DecidableEq, Repr

/-- What an `EXPECT` line may name and compare as numbers (R108): the last response, or a field of the state
(spec/10_state.md R21 to R29, R38 to R44), a register whole or by its named fields. -/
inductive Observable where
  | resp
  | enabled
  | locked
  | playerCount
  | currentPlayerId
  | incoming (i : SlotId)
  | outgoing
  | timeouts
  | timeout (i : SlotId)
  | irqFlag
  | irqTimeout
  | ctrl
  | ctrlSecondary
  | ctrlReady
  | ctrlId
  | ctrlError
  | ctrlStart
  | ctrlMulti
  | ctrlOther
  | mode
  | modeSel
  | txdata
  | rxslot
  | rxslotAt (i : SlotId)
  | tmrSel
  | tmrReload
  | tmrEn
  | tmrIrqEn
deriving DecidableEq, Repr

/-- The two values of `MODE.sel` the block writes, by name (spec/10_state.md R41). -/
inductive ModeName where
  | multi
  | gp
deriving DecidableEq, Repr

/-- An output event as a script writes it (spec/10_state.md R47). -/
inductive EventText where
  | txWrite (v : Word)
  | exchangeStart (v : Word)
  | transportConfig (m : ModeName)
  | timerStart
  | timerStop
deriving DecidableEq, Repr

/-- One `<field or resp>=<value>` of an `EXPECT` line (R108): one number for a scalar field, one per entry for a queue, the
counters or the slots; the output trace, the fourth part of the state (spec/10_state.md R20), by its events. -/
inductive Expectation where
  | field (o : Observable) (values : List Nat)
  | trace (events : List EventText)
deriving DecidableEq, Repr

/-- One line of a one-device script (R108, with `EXT` and `RST` of spec/92_eei_decisions.md D47). -/
inductive ScriptLine where
  | request (r : AsmRequest)
  | hold (r : AsmRequest)
  | retire
  | env (u : EnvUpdate)
  | ext (u : ExtUpdate)
  | rst
  | expect (what : List Expectation)
deriving DecidableEq, Repr

/-- One line of a script with several devices (R108): a line for the device with an id, or the reference exchange. -/
inductive LinkLine where
  | device (id : SlotId) (line : ScriptLine)
  | xchg
deriving DecidableEq, Repr

end Sys2Proof
end

