-- ==== Sys2Proof/Config.lean ====
section
/-! DEFINITION. What an implementation fixes (spec/00_scope.md R11, R13; spec/10_state.md R34) and the free values.
The configuration is a record that no step changes; State carries it so that every statement ranges over all
configurations (log 1). -/

namespace Sys2Proof

/-- The configuration straps (R11) and the parameters of R13. `CFG_OTHER`, a function of the two bits of `BAUD`, is
its table of four words (spec/10_state.md R40). -/
structure Config where
  /-- `BAUD`, two bits: one of four fixed rates. -/
  baud : BitVec 2
  /-- `TICK_THRESHOLD`, 0 to 254. -/
  tickThreshold : Nat
  /-- `REMOTE_TIMEOUT`, 1 to 254. -/
  remoteTimeout : Nat
  /-- `QUEUE_CAPACITY`, 1 to 255, the same for all five FIFOs. -/
  queueCapacity : Nat
  /-- `INTERVAL`, copied to the timer port and compared by no rule. -/
  interval : Word
  /-- `TIMER_ID`, below `N_TIMERS`. -/
  timerId : Nat
  /-- `N_TIMERS`, the number of timer slots of the platform. -/
  nTimers : Nat
  /-- `MODE_MULTI`, the value of `MODE.sel` that selects the multiplayer configuration. -/
  modeMulti : BitVec 2
  /-- `MODE_GP`, the value of `MODE.sel` that selects the general-purpose, inactive configuration. -/
  modeGp : BitVec 2
  /-- `CFG_OTHER(BAUD)`, one word per rate. -/
  cfgOther : Slots Word
deriving DecidableEq, Repr, Inhabited

/-- The configuration of the state after reset: the defaults the spec states (3, 5, 30, BAUD 0); PRESUMED, unsafe where
the spec marks them general knowledge or OPEN (INTERVAL 50, TIMER_ID 3, N_TIMERS 4, the mode values,
`CFG_OTHER(BAUD) = BAUD | 1 << 14`): log 2. -/
def Config.default : Config where
  baud := 0
  tickThreshold := 3
  remoteTimeout := 5
  queueCapacity := 30
  interval := 50
  timerId := 3
  nTimers := 4
  modeMulti := 0b00
  modeGp := 0b10
  cfgOther := ⟨0x4000, 0x4001, 0x4002, 0x4003⟩

/-- FREE VALUE (log 4), safe: the step label taken when none is pending. The order and the labels of steps are the
scheduler's and the environment's choice (spec/42_sync_mux.md R171, R176; spec/93_implementation_defined.md U1, U4,
U5, U11), so nothing is known of it. -/
opaque Config.freeLabel : Nat → StepLabel

/-- FREE VALUE (log 9), safe: a register the spec leaves unspecified (`TMR_RELOAD` after `Rst`,
spec/70_reset_and_hazards.md R330). -/
opaque Config.freeWord : Nat → Word

end Sys2Proof
end

