-- ==== Sys2Proof/WellFormed.lean ====
section
/-! DEFINITION. What makes a configuration legal (spec/70_reset_and_hazards.md R335, spec/00_scope.md R11, R13) and a
source line well formed (spec/30_encoding.md R107). An `Instr` needs no check: its operands have the width of their
encodings. A request word is checked by the decoder. -/

namespace Sys2Proof

/-- `TICK_THRESHOLD` in 0..254 (R11). -/
def Config.tickThresholdLegal (c : Config) : Bool := c.tickThreshold ≤ 254

/-- `REMOTE_TIMEOUT` in 1..254 (R11). -/
def Config.remoteTimeoutLegal (c : Config) : Bool := 1 ≤ c.remoteTimeout && c.remoteTimeout ≤ 254

/-- `QUEUE_CAPACITY` in 1..255 (R11). -/
def Config.queueCapacityLegal (c : Config) : Bool := 1 ≤ c.queueCapacity && c.queueCapacity ≤ 255

/-- `TIMER_ID` below `N_TIMERS` (R11, which makes `N_TIMERS` at least 1). -/
def Config.timerIdLegal (c : Config) : Bool := c.timerId < c.nTimers

/-- The two mode values differ (spec/92_eei_decisions.md D27). -/
def Config.modesDistinct (c : Config) : Bool := c.modeMulti ≠ c.modeGp

/-- `CFG_OTHER` has zeros in bits 13 and 7 to 2 (spec/10_state.md R40). -/
def Config.cfgOtherLegal (c : Config) : Bool :=
  c.cfgOther.s0 &&& 0x20FC#16 = 0#16 && c.cfgOther.s1 &&& 0x20FC#16 = 0#16 &&
  c.cfgOther.s2 &&& 0x20FC#16 = 0#16 && c.cfgOther.s3 &&& 0x20FC#16 = 0#16

/-- A legal configuration: the block's rules hold for it, and a model refuses any other (R335). -/
def Config.legal (c : Config) : Bool :=
  c.tickThresholdLegal && c.remoteTimeoutLegal && c.queueCapacityLegal && c.timerIdLegal &&
  c.modesDistinct && c.cfgOtherLegal

/-- A source line is well formed (R107): SEND takes a value 0 to 65535, HAS_MESSAGE and READ_MESSAGE a peer 0 to 3,
every other mnemonic no operand. -/
def AsmRequest.wellFormed (r : AsmRequest) : Bool :=
  match r.mnemonic, r.operand with
  | .send, some v => v ≤ 65535
  | .send, none => false
  | .hasMessage, some p => p ≤ 3
  | .hasMessage, none => false
  | .readMessage, some p => p ≤ 3
  | .readMessage, none => false
  | .nop, o => o.isNone
  | .activate, o => o.isNone
  | .deactivate, o => o.isNone
  | .isConnected, o => o.isNone
  | .evFrameSync, o => o.isNone
  | .evSerial, o => o.isNone
  | .evTimer, o => o.isNone

/-- A script line is well formed when the request it holds is. -/
def ScriptLine.wellFormed : ScriptLine → Bool
  | .request r => r.wellFormed
  | .hold r => r.wellFormed
  | .retire => true
  | .env _ => true
  | .ext _ => true
  | .rst => true
  | .expect _ => true

end Sys2Proof
end

