-- ==== Sys2Proof/Decode.lean ====
section
/-! DEFINITION. The request decoder (spec/30_encoding.md R97), total on every 20-bit word and rejecting by name (R103,
R104), the encoder beside it, and the opcode map of R92 as a table. -/

namespace Sys2Proof

/-- `OPC = req[19:16]` (R90). -/
def opcodeOf (w : ReqWord) : BitVec 4 := w.extractLsb' 16 4

/-- `ARG = req[15:0]` (R90). -/
def argumentOf (w : ReqWord) : BitVec 16 := w.extractLsb' 0 16

/-- The operand `peer = req[1:0]` (R95). -/
def peerOf (w : ReqWord) : SlotId := w.extractLsb' 0 2

/-- The bits `req[15:2]`, reserved in format P (R91). -/
def peerReservedOf (w : ReqWord) : BitVec 14 := w.extractLsb' 2 14

/-- The operations of formats N and E by opcode (R92); no other opcode takes no operand. -/
def operandlessInstr (opc : BitVec 4) : Option Instr :=
  if opc = 0x0#4 then some .nop
  else if opc = 0x1#4 then some .activate
  else if opc = 0x2#4 then some .deactivate
  else if opc = 0x4#4 then some .isConnected
  else if opc = 0x8#4 then some .evFrameSync
  else if opc = 0x9#4 then some .evSerial
  else if opc = 0xA#4 then some .evTimer
  else none

/-- The decode procedure of R97. -/
def decode (w : ReqWord) : Except ReservedWord Instr :=
  if opcodeOf w = 0x3#4 then .ok (.send (argumentOf w))
  else if opcodeOf w = 0x5#4 then
    if peerReservedOf w = 0 then .ok (.hasMessage (peerOf w))
    else .error (.argument (opcodeOf w) (argumentOf w))
  else if opcodeOf w = 0x6#4 then
    if peerReservedOf w = 0 then .ok (.readMessage (peerOf w))
    else .error (.argument (opcodeOf w) (argumentOf w))
  else match operandlessInstr (opcodeOf w) with
    | some i =>
      if argumentOf w = 0 then .ok i else .error (.argument (opcodeOf w) (argumentOf w))
    | none => .error (.opcode (opcodeOf w))

/-- The opcode of each operation (R92). -/
def Instr.opcode : Instr → BitVec 4
  | .nop => 0x0
  | .activate => 0x1
  | .deactivate => 0x2
  | .send _ => 0x3
  | .isConnected => 0x4
  | .hasMessage _ => 0x5
  | .readMessage _ => 0x6
  | .evFrameSync => 0x8
  | .evSerial => 0x9
  | .evTimer => 0xA

/-- The argument field of each operation (R91): the value, the peer below fourteen zeros, or zero. -/
def Instr.argument : Instr → BitVec 16
  | .send v => v
  | .hasMessage p => p.setWidth 16
  | .readMessage p => p.setWidth 16
  | .nop => 0
  | .activate => 0
  | .deactivate => 0
  | .isConnected => 0
  | .evFrameSync => 0
  | .evSerial => 0
  | .evTimer => 0

/-- The request word of an operation, the opcode above the argument (R90, R92). -/
def encode (i : Instr) : ReqWord := i.opcode.setWidth 20 <<< 16 ||| i.argument.setWidth 20

/-- The opcode map of R92, row by row. -/
def opcodeTable : List OpcodeRow :=
  [⟨"NOP", .n, 0x00000, 0xFFFFF⟩,
   ⟨"ACTIVATE", .n, 0x10000, 0xFFFFF⟩,
   ⟨"DEACTIVATE", .n, 0x20000, 0xFFFFF⟩,
   ⟨"SEND", .v, 0x30000, 0xF0000⟩,
   ⟨"IS_CONNECTED", .n, 0x40000, 0xFFFFF⟩,
   ⟨"HAS_MESSAGE", .p, 0x50000, 0xFFFFC⟩,
   ⟨"READ_MESSAGE", .p, 0x60000, 0xFFFFC⟩,
   ⟨"EV_FRAME_SYNC", .e, 0x80000, 0xFFFFF⟩,
   ⟨"EV_SERIAL", .e, 0x90000, 0xFFFFF⟩,
   ⟨"EV_TIMER", .e, 0xA0000, 0xFFFFF⟩]

/-- A word selects a row when `w & mask = pattern` (R92). -/
def OpcodeRow.selects (r : OpcodeRow) (w : ReqWord) : Bool := w &&& r.mask = r.pattern

/-- The mnemonic of an operation as R92 spells it. -/
def Instr.mnemonic : Instr → String
  | .nop => "NOP"
  | .activate => "ACTIVATE"
  | .deactivate => "DEACTIVATE"
  | .send _ => "SEND"
  | .isConnected => "IS_CONNECTED"
  | .hasMessage _ => "HAS_MESSAGE"
  | .readMessage _ => "READ_MESSAGE"
  | .evFrameSync => "EV_FRAME_SYNC"
  | .evSerial => "EV_SERIAL"
  | .evTimer => "EV_TIMER"

/-- The request word that stands in the low `nbits` bits of the number `w`, every bit above them zero. Its bits are
numbered as spec/opcode_table.json numbers them; it is presented whole on the request port, so no byte order enters
(R90; log 24). -/
def requestWordOfTable (nbits w : Nat) : ReqWord := BitVec.ofNat 20 (w % 2 ^ nbits)

/-- What the decoder reads from a table word; `none` where it refuses, and where the number has bits the 20-bit request
port does not have (log 24). -/
def decodeTableWord (nbits w : Nat) : Option Instr :=
  if w % 2 ^ nbits < 2 ^ 20 then
    match decode (requestWordOfTable nbits w) with
    | .ok i => some i
    | .error _ => none
  else none

end Sys2Proof
end

