-- ==== Sys2Proof/Machine/State.lean ====
section
/-! DEFINITION. The state of one instance of the block (spec/10_state.md R20 to R52), the reasons a step can stop, and
the state after reset (R48, R49). -/

namespace Sys2Proof.Machine

/-- Why a step faults: never. No fault leaves the block and no step has a fault outcome (spec/60_exceptions.md R290, R319;
spec/42_sync_mux.md R176), so the type has no constructor (log 16; safe). -/
inductive Fault where
deriving DecidableEq, Repr

/-- Why a step is refused. -/
inductive Refusal where
  /-- Raised by `exec` for an instruction without a meaning. No arm raises it; safe. -/
  | notModelled (mnemonic : String)
  /-- Raised by `Ext` while `enabled = 1`: the external owner wrote the transport while the block owns it, a run that
  spec/42_sync_mux.md R170 and spec/93_implementation_defined.md U9 tell a model to refuse (log 7); safe. -/
  | ownershipBroken
  /-- Raised by every step of a machine whose configuration is outside the ranges of spec/70_reset_and_hazards.md R335,
  which a model refuses (log 3); safe. -/
  | illegalConfiguration
deriving DecidableEq, Repr

/-- One bounded ring FIFO (spec/40_fifo.md R126): its storage words, the position of the oldest word, and the number of
words held. `mem` has `QUEUE_CAPACITY` words, `head` and `count` fit eight bits: `ringWf` (log 15). -/
structure Ring where
  mem : List Word
  head : Nat
  count : Nat
deriving DecidableEq, Repr, Inhabited

/-- The value of a timeout counter (spec/41_timeout_counter.md R140). -/
inductive Timeout where
  | offline
  | live (n : Nat)
deriving DecidableEq, Repr, Inhabited

/-- The session state tag (spec/10_state.md R30); a function of the state, never stored. -/
inductive SessionTag where
  | inactive
  | searching
  | connected
deriving DecidableEq, Repr

/-- The output events of the trace (spec/10_state.md R47). -/
inductive OutEvent where
  | txWrite (v : Word)
  | exchangeStart (v : Word)
  | transportConfig (sel : BitVec 2)
  | timerStart
  | timerStop
deriving DecidableEq, Repr

/-- The absorbed faults by their identifiers (spec/60_exceptions.md R291), as the ghost list allowed by R319 holds them.
DESIGN CHOICE (log 13): R292 records no value with a fault and R319 speaks of the identifiers alone; the entry for
F_PEER_TIMEOUT also carries the number of the slot that went offline. It influences no state. -/
inductive AbsorbedFault where
  | transportError             -- F_TRANSPORT_ERROR, R293
  | stall                      -- F_STALL, R294
  | peerTimeout (slot : SlotId) -- F_PEER_TIMEOUT, R295
  | contention                 -- F_CONTENTION, R296
  | sentinelSend               -- F_SENTINEL_SEND, R297
  | overflow                   -- F_OVERFLOW, R298
  | reservedRequest            -- F_RESERVED_REQUEST, R299
deriving DecidableEq, Repr

/-- The state of one instance of the block (R20). -/
structure State where
  /-- The configuration, which no step changes (R34; log 1). -/
  cfg : Config
  /-- The activation flag (R21). -/
  enabled : Bool
  /-- The re-entrancy guard (R22). -/
  locked : Bool
  /-- Detected participants including self, 0 to 4, three bits (R23). -/
  playerCount : BitVec 3
  /-- This device's slot, two bits (R24). -/
  currentPlayerId : SlotId
  /-- The four inbound FIFOs (R25). -/
  incoming : Slots Ring
  /-- The outbound FIFO (R26). -/
  outgoing : Ring
  /-- The four per-slot counters of missed exchanges (R27). -/
  timeouts : Slots Timeout
  /-- A serial-complete tick was handled since the last handled frame-sync tick (R28). -/
  irqFlag : Bool
  /-- The staleness counter, eight bits, saturating (R29). -/
  irqTimeout : BitVec 8
  /-- The control register (R38). -/
  ctrl : Word
  /-- The mode register (R41). -/
  mode : Word
  /-- The outbound register (R42). -/
  txdata : Word
  /-- The four inbound slots (R43). -/
  rxslot : Slots Word
  /-- `TMR_SEL` (R44). -/
  tmrSel : Nat
  /-- `TMR_RELOAD` (R44). -/
  tmrReload : Word
  /-- `TMR_EN` (R44). -/
  tmrEn : Bool
  /-- `TMR_IRQ_EN` (R44). -/
  tmrIrqEn : Bool
  /-- The last response (R46; log 12). -/
  resp : Word
  /-- The output trace, oldest event first (R47). -/
  trace : List OutEvent
  /-- The MODEL's: the faults absorbed in the last step, a ghost (spec/60_exceptions.md R319; log 13). -/
  absorbed : List AbsorbedFault
  /-- The MODEL's: the step labels waiting, oldest first (log 4). -/
  inputs : List StepLabel
  /-- The MODEL's: how many free values have been drawn (log 11). -/
  draws : Nat
deriving DecidableEq, Repr

/-- An empty ring of capacity `c` at power-on: `head` and `count` 0 (R48); the storage words are unspecified there, here
zero (DESIGN CHOICE, unsafe: log 10). -/
def Ring.powerOn (c : Nat) : Ring := ⟨List.replicate c 0, 0, 0⟩

/-- The state after power-on or hardware reset (R48, R49). The transport registers, `TMR_RELOAD`, the ring storage and
`resp`, which the spec leaves unspecified, are zero (DESIGN CHOICE, unsafe: logs 8, 9, 10, 12). -/
def State.reset : State where
  cfg := Config.default
  enabled := false
  locked := false
  playerCount := 0
  currentPlayerId := 0
  incoming := ⟨Ring.powerOn 30, Ring.powerOn 30, Ring.powerOn 30, Ring.powerOn 30⟩
  outgoing := Ring.powerOn 30
  timeouts := ⟨.offline, .offline, .offline, .offline⟩
  irqFlag := false
  irqTimeout := 0
  ctrl := 0
  mode := 0
  txdata := 0
  rxslot := ⟨0, 0, 0, 0⟩
  tmrSel := Config.default.timerId
  tmrReload := 0
  tmrEn := false
  tmrIrqEn := false
  resp := 0
  trace := []
  absorbed := []
  inputs := []
  draws := 0

end Sys2Proof.Machine
end

