-- ==== Sys2Proof/Machine/Operands.lean ====
section
/-! DEFINITION. Operand forms: the four slots by number, the classes of a payload word (spec/00_scope.md R16), the named
fields of the transport registers (spec/10_state.md R38 to R42, spec/30_encoding.md R100, R101), the stored byte of a
timeout counter (spec/30_encoding.md R102). -/

namespace Sys2Proof.Machine

/-- The thing of slot `i`. -/
def slotGet {α : Type} (q : Slots α) (i : SlotId) : α :=
  if i = 0 then q.s0 else if i = 1 then q.s1 else if i = 2 then q.s2 else q.s3

/-- The four things with slot `i`'s replaced. -/
def slotSet {α : Type} (q : Slots α) (i : SlotId) (a : α) : Slots α :=
  if i = 0 then { q with s0 := a } else if i = 1 then { q with s1 := a }
  else if i = 2 then { q with s2 := a } else { q with s3 := a }

/-- Four equal things. -/
def slotsAll {α : Type} (a : α) : Slots α := ⟨a, a, a, a⟩

/-- The four slot numbers, in the order of the loop of EV_SERIAL (spec/44_event_handlers.md R207). -/
def slotIds : List SlotId := [0, 1, 2, 3]

/-- `DISCONNECTED` (R16). -/
def disconnectedWord : Word := 0xFFFF

/-- `NO_DATA` (R16). -/
def noDataWord : Word := 0x0000

/-- A sentinel: either of the two reserved values (R16). -/
def isSentinel (v : Word) : Bool := v = disconnectedWord || v = noDataWord

/-- A real value: neither (R16). -/
def isRealValue (v : Word) : Bool := !isSentinel v

/-- A boolean on the 16-bit response port (R15 `zext_16`, spec/30_encoding.md R98). -/
def zext16 (b : Bool) : Word := if b then 0x0001 else 0x0000

/-- `CTRL.secondary`, bit 2 (R38): 0 is the primary. -/
def ctrlSecondary (c : Word) : Bool := c.getLsbD 2

/-- `CTRL.ready`, bit 3 (R38). -/
def ctrlReady (c : Word) : Bool := c.getLsbD 3

/-- `CTRL.id`, bits 5:4 (R38). -/
def ctrlId (c : Word) : SlotId := c.extractLsb' 4 2

/-- `CTRL.error`, bit 6 (R38). -/
def ctrlError (c : Word) : Bool := c.getLsbD 6

/-- `CTRL.start`, bit 7 (R39). -/
def ctrlStart (c : Word) : Bool := c.getLsbD 7

/-- `CTRL.multi`, bit 13 (R38). -/
def ctrlMulti (c : Word) : Bool := c.getLsbD 13

/-- The bits of CTRL the document does not name: 15, 14, 12 to 8, 1, 0 (R38). -/
def ctrlOtherMask : Word := 0xDF03

/-- `CTRL.other`, in place, zeros elsewhere (R38). -/
def ctrlOther (c : Word) : Word := c &&& ctrlOtherMask

/-- `w` with the bits under `mask` taken from `v`, the other bits undisturbed (spec/20_memory.md R66). -/
def writeField (mask v w : Word) : Word := (w &&& ~~~mask) ||| (v &&& mask)

/-- One bit in place. -/
def bitAt (n : Nat) (b : Bool) : Word := if b then (1 : Word) <<< n else 0

/-- `CTRL.secondary <- b`, by the transport. -/
def setCtrlSecondary (b : Bool) (c : Word) : Word := writeField 0x0004 (bitAt 2 b) c

/-- `CTRL.ready <- b`, by the transport. -/
def setCtrlReady (b : Bool) (c : Word) : Word := writeField 0x0008 (bitAt 3 b) c

/-- `CTRL.id <- i`, by the transport. -/
def setCtrlId (i : SlotId) (c : Word) : Word := writeField 0x0030 (i.zeroExtend 16 <<< 4) c

/-- `CTRL.error <- b`, by the transport. -/
def setCtrlError (b : Bool) (c : Word) : Word := writeField 0x0040 (bitAt 6 b) c

/-- `CTRL.start <- b` (R39). -/
def setCtrlStart (b : Bool) (c : Word) : Word := writeField 0x0080 (bitAt 7 b) c

/-- `CTRL.multi <- b` (R38). -/
def setCtrlMulti (b : Bool) (c : Word) : Word := writeField 0x2000 (bitAt 13 b) c

/-- `CTRL.other <- v` (R40). -/
def setCtrlOther (v c : Word) : Word := writeField ctrlOtherMask v c

/-- `MODE.sel = MODE[15:14]` (R41). -/
def modeSel (m : Word) : BitVec 2 := m.extractLsb' 14 2

/-- `MODE.sel <- sel`; `MODE[13:0]` undisturbed (R41). -/
def setModeSel (sel : BitVec 2) (m : Word) : Word := writeField 0xC000 (sel.zeroExtend 16 <<< 14) m

/-- `CFG_OTHER(BAUD)` (R40). -/
def cfgOtherWord (c : Config) : Word := slotGet c.cfgOther c.baud

/-- The stored byte of a timeout counter (R102): `n`, or `T_OFFLINE = 0xFF`. -/
def timeoutByte : Timeout → BitVec 8
  | .offline => 0xFF
  | .live n => BitVec.ofNat 8 n

/-- The counter a stored byte stands for (R102). -/
def timeoutOfByte (b : BitVec 8) : Timeout := if b = 0xFF then .offline else .live b.toNat

/-- The counter is live (spec/41_timeout_counter.md R140). -/
def isLive : Timeout → Bool
  | .offline => false
  | .live _ => true

end Sys2Proof.Machine
end

