-- ==== Sys2Proof/Machine/Fifo.lean ====
section
/-! DEFINITION. The bounded ring FIFO (spec/40_fifo.md): the concrete ring of R126 and the five primitives of R122 to
R125, each a function of the capacity `C`. The six properties of R128 are stated of them in Safety.lean
(`FifoProperties`). -/

namespace Sys2Proof.Machine

/-- The storage position of the `k`-th oldest word: `(head + k) mod C` (R126). -/
def ringIndex (C : Nat) (q : Ring) (k : Nat) : Nat := (q.head + k) % C

/-- `abs(q)`: the held sequence, oldest first (R126). -/
def ringAbs (C : Nat) (q : Ring) : List Word :=
  (List.range q.count).map fun k => q.mem.getD (ringIndex C q k) 0

/-- The canonical form of a ring: `C` storage words, `head < C`, `count <= C` (R126). -/
def ringWf (C : Nat) (q : Ring) : Bool := q.mem.length = C && q.head < C && q.count ≤ C

/-- The ring holds `C` words: a push drops the oldest (R123). -/
def ringFull (C : Nat) (q : Ring) : Bool := C ≤ q.count

/-- The storage position a push writes: behind the newest word (R122), or, when full, where the oldest was (R123). -/
def pushIndex (C : Nat) (q : Ring) : Nat :=
  if ringFull C q then ((q.head + 1) % C + C - 1) % C else (q.head + q.count) % C

/-- `fifo_push(q, v)` (R122, R123). -/
def fifoPush (C : Nat) (q : Ring) (v : Word) : Ring :=
  if ringFull C q then
    { q with mem := q.mem.set (pushIndex C q) v, head := (q.head + 1) % C }
  else
    { q with mem := q.mem.set (pushIndex C q) v, count := q.count + 1 }

/-- `fifo_empty(q)` (R125). -/
def fifoEmpty (q : Ring) : Bool := q.count = 0

/-- `fifo_len(q)` (R125). -/
def fifoLen (q : Ring) : Nat := q.count

/-- `fifo_pop(q)`: the word returned, `NO_DATA` from an empty FIFO, and the FIFO after it (R124). -/
def fifoPop (C : Nat) (q : Ring) : Word × Ring :=
  if fifoEmpty q then (noDataWord, q)
  else (q.mem.getD q.head 0, { q with head := (q.head + 1) % C, count := q.count - 1 })

/-- `fifo_clear(q)`: the storage words are not erased (R125). -/
def fifoClear (q : Ring) : Ring := { q with head := 0, count := 0 }

end Sys2Proof.Machine
end

