-- ==== Sys2Proof/Machine/Flags.lean ====
section
/-! DEFINITION. The flags and predicates computed from the state: the guard (spec/42_sync_mux.md R159), the role (R158),
the connected predicate and the session tag (spec/10_state.md R30), the liveness flags of the three handlers
(spec/44_event_handlers.md R206, R207), the conditions of EV_TIMER (R213, R214). -/

namespace Sys2Proof.Machine

/-- The guard condition (R159): a guarded operation has effect only under it. -/
def guardPasses (s : State) : Bool := !s.locked && s.enabled

/-- The device is the primary (R158). -/
def isPrimary (s : State) : Bool := !ctrlSecondary s.ctrl

/-- The device is a secondary (R158). -/
def isSecondary (s : State) : Bool := ctrlSecondary s.ctrl

/-- The connected predicate on the two fields (R30, R32): `playerCount > 1` and the own id below it. -/
def connectedFields (playerCount : BitVec 3) (id : SlotId) : Bool :=
  1 < playerCount.toNat && id.toNat < playerCount.toNat

/-- `connected(S)` (R30). -/
def connected (s : State) : Bool := connectedFields s.playerCount s.currentPlayerId

/-- `tag(S)` (R30). -/
def sessionTag (s : State) : SessionTag :=
  if !s.enabled then .inactive else if connected s then .connected else .searching

/-- The staleness counter after one missed frame (R206): eight bits, saturating at 255. -/
def bumpStaleness (n : BitVec 8) : BitVec 8 := BitVec.ofNat 8 (min (n.toNat + 1) 255)

/-- The transport reports a ready+error condition (R213, `F_TRANSPORT_ERROR`). -/
def transportErrorReported (s : State) : Bool := ctrlReady s.ctrl && ctrlError s.ctrl

/-- The staleness counter exceeds the threshold (R213, `F_STALL`). -/
def stallReported (s : State) : Bool := s.cfg.tickThreshold < s.irqTimeout.toNat

/-- `reset_needed` (R213). -/
def resetNeeded (s : State) : Bool := transportErrorReported s || stallReported s

/-- `send_now` (R214). -/
def sendNow (s : State) : Bool := isPrimary s && ctrlReady s.ctrl && !ctrlStart s.ctrl

end Sys2Proof.Machine
end

