-- ==== Sys2Proof/Machine/Ops.lean ====
section
/-! DEFINITION. The shared operations: the ghost and trace records, the response, the guard's issue and RETIRE
(spec/42_sync_mux.md R160, R162, the block's entry and return, spec/60_exceptions.md R307, R308), the updates of a
timeout counter (spec/41_timeout_counter.md), the writes to the transport and the timer (spec/42_sync_mux.md R157, R167
to R169, R173), the session reset and the forced reset (spec/43_lifecycle.md R186, R189), and the steps of the
environment, the external owner and the reset input (R171, R172, R192). -/

namespace Sys2Proof.Machine

/-- `out(e)`: append an output event to the trace (spec/10_state.md R47). -/
def emit (e : OutEvent) (s : State) : State := { s with trace := s.trace ++ [e] }

/-- `absorb f`: note the fault in the ghost list; no other effect (spec/60_exceptions.md R290, R319). -/
def absorb (f : AbsorbedFault) (s : State) : State := { s with absorbed := s.absorbed ++ [f] }

/-- Note the fault when its condition holds. -/
def absorbIf (b : Bool) (f : AbsorbedFault) (s : State) : State := if b then absorb f s else s

/-- `resp <- v` (spec/10_state.md R46). -/
def respond (v : Word) (s : State) : State := { s with resp := v }

/-! ### The guard: entry, skip and return -/

/-- The outcome of a guarded operation whose guard does not pass: no state change, response 0x0000
(spec/45_app_operations.md R236), `F_CONTENTION` absorbed (spec/60_exceptions.md R296). -/
def skip (s : State) : State := respond 0x0000 (absorb .contention s)

/-- The issue of a guarded operation (R160): test and set of `locked` in one step, then the whole body. `locked` stays
set until RETIRE. -/
def issue (body : State → State) (s : State) : State :=
  if guardPasses s then body { s with locked := true } else skip s

/-- RETIRE (R162): `locked <- 0` and nothing else. Where it is not enabled (`locked = 0`) nothing happens (log 6). -/
def retire (s : State) : State := if s.locked then { s with locked := false } else s

/-! ### FIFOs of the state -/

/-- Push on `incoming[i]` with the configured capacity; `F_OVERFLOW` when it is full (R123, spec/60_exceptions.md R298). -/
def pushIncoming (i : SlotId) (v : Word) (s : State) : State :=
  absorbIf (ringFull s.cfg.queueCapacity (slotGet s.incoming i)) .overflow
    { s with incoming := slotSet s.incoming i (fifoPush s.cfg.queueCapacity (slotGet s.incoming i) v) }

/-- Push on `outgoing`; `F_OVERFLOW` when it is full. -/
def pushOutgoing (v : Word) (s : State) : State :=
  absorbIf (ringFull s.cfg.queueCapacity s.outgoing) .overflow
    { s with outgoing := fifoPush s.cfg.queueCapacity s.outgoing v }

/-- `next_out()`: the head of `outgoing`, or `NO_DATA` (R157), and the state without it. -/
def nextOut (s : State) : Word × State :=
  ((fifoPop s.cfg.queueCapacity s.outgoing).1,
   { s with outgoing := (fifoPop s.cfg.queueCapacity s.outgoing).2 })

/-! ### Timeout counters (spec/41_timeout_counter.md) -/

/-- `timeouts[i] <- t`. -/
def setTimeout (i : SlotId) (t : Timeout) (s : State) : State := { s with timeouts := slotSet s.timeouts i t }

/-- `t_miss(i)` (R143): whether the slot is still detected, and the state after. -/
def tMiss (i : SlotId) (s : State) : Bool × State :=
  match slotGet s.timeouts i with
  | .offline => (false, s)
  | .live n =>
    if n + 1 ≥ s.cfg.remoteTimeout then
      (false, absorb (.peerTimeout i) (setTimeout i .offline
        { s with incoming := slotSet s.incoming i (fifoClear (slotGet s.incoming i)) }))
    else (true, setTimeout i (.live (n + 1)) s)

/-- `t_real(i)` (R144). -/
def tReal (i : SlotId) (s : State) : Bool × State := (true, setTimeout i (.live 0) s)

/-- `t_nodata(i)` (R145). -/
def tNodata (i : SlotId) (s : State) : Bool × State :=
  match slotGet s.timeouts i with
  | .offline => (true, s)
  | .live _ => (true, setTimeout i (.live 0) s)

/-! ### Transport and timer -/

/-- `start_exchange(v)` (R167): `TXDATA`, then `CTRL.start` (spec/20_memory.md R80). -/
def startExchange (v : Word) (s : State) : State :=
  emit (.exchangeStart v) { s with txdata := v, ctrl := setCtrlStart true s.ctrl }

/-- `load_reply(v)` (R168). -/
def loadReply (v : Word) (s : State) : State := emit (.txWrite v) { s with txdata := v }

/-- `transport_config()` (R169). -/
def transportConfig (s : State) : State :=
  emit (.transportConfig s.cfg.modeMulti)
    { s with
      mode := setModeSel s.cfg.modeMulti s.mode
      ctrl := setCtrlStart false (setCtrlMulti true (setCtrlOther (cfgOtherWord s.cfg) s.ctrl))
      txdata := noDataWord }

/-- DEACTIVATE's write of the mode register (spec/43_lifecycle.md R188): `CTRL` and `TXDATA` are left. -/
def transportRelease (s : State) : State :=
  emit (.transportConfig s.cfg.modeGp) { s with mode := setModeSel s.cfg.modeGp s.mode }

/-- `timer_start()` (R173). -/
def timerStart (s : State) : State :=
  emit .timerStart { s with tmrReload := s.cfg.interval, tmrIrqEn := true, tmrEn := true }

/-- `timer_stop()` (R173). -/
def timerStop (s : State) : State := emit .timerStop { s with tmrEn := false, tmrIrqEn := false }

/-! ### Resets -/

/-- The four FIFOs with every one cleared. -/
def clearAll (q : Slots Ring) : Slots Ring := ⟨fifoClear q.s0, fifoClear q.s1, fifoClear q.s2, fifoClear q.s3⟩

/-- `RESET_SESSION` (spec/43_lifecycle.md R186): every Session State field but `enabled` and `locked`. -/
def resetSession (s : State) : State :=
  { s with
    playerCount := 0
    currentPlayerId := 0
    incoming := clearAll s.incoming
    timeouts := slotsAll .offline
    outgoing := fifoClear s.outgoing
    irqFlag := false
    irqTimeout := 0 }

/-- `FORCED_RESET` (spec/43_lifecycle.md R189; the block's one trap, spec/60_exceptions.md R310): `enabled` and `locked`
keep their values. -/
def forcedReset (s : State) : State := timerStart (resetSession (transportConfig s))

/-- `Rst` (spec/43_lifecycle.md R192, spec/70_reset_and_hazards.md R330): the power-on state of R48. The transport
registers are not written, the FIFO storage is not erased (R333), `TMR_RELOAD` is unspecified: a free value (log 9). -/
def hardReset (s : State) : State :=
  { resetSession s with
    enabled := false
    locked := false
    tmrSel := s.cfg.timerId
    tmrReload := Config.freeWord s.draws
    tmrEn := false
    tmrIrqEn := false
    resp := 0x0000
    trace := []
    draws := s.draws + 1 }

/-! ### Environment and external owner -/

/-- The control register after the transport's changes (R171). -/
def envCtrl (u : EnvUpdate) (c : Word) : Word :=
  let c := match u.secondary with | some b => setCtrlSecondary b c | none => c
  let c := match u.ready with | some b => setCtrlReady b c | none => c
  let c := match u.id with | some i => setCtrlId i c | none => c
  let c := match u.error with | some b => setCtrlError b c | none => c
  match u.start with | some b => setCtrlStart b c | none => c

/-- `Env(u)` (R171): transport-owned fields and `CTRL.start` only. -/
def envStep (u : EnvUpdate) (s : State) : State :=
  { s with ctrl := envCtrl u s.ctrl, rxslot := u.rxslot.getD s.rxslot }

/-- The control register after the external owner's writes (R172). -/
def extCtrl (u : ExtUpdate) (c : Word) : Word :=
  let c := match u.start with | some b => setCtrlStart b c | none => c
  let c := match u.multi with | some b => setCtrlMulti b c | none => c
  match u.other with | some v => setCtrlOther v c | none => c

/-- `Ext(u)` (R172): owner-written fields and the timer port only; no Session State. -/
def extStep (u : ExtUpdate) (s : State) : State :=
  { s with
    ctrl := extCtrl u s.ctrl
    mode := u.mode.getD s.mode
    txdata := u.txdata.getD s.txdata
    tmrReload := u.tmrReload.getD s.tmrReload
    tmrEn := u.tmrEn.getD s.tmrEn
    tmrIrqEn := u.tmrIrqEn.getD s.tmrIrqEn }

end Sys2Proof.Machine
end

