-- ==== Sys2Proof/Machine/Application.lean ====
section
/-! DEFINITION. The application operations (spec/45_app_operations.md): SEND, IS_CONNECTED, HAS_MESSAGE, READ_MESSAGE;
guarded (R235). -/

namespace Sys2Proof.Machine

/-- `B_SEND` (R237): a sentinel is dropped, any other value queued. -/
def sendBody (value : Word) (s : State) : State :=
  respond 0x0000 (if isSentinel value then absorb .sentinelSend s else pushOutgoing value s)

/-- SEND (R237). -/
def execSend (value : Word) (s : State) : Host.Outcome State Fault Refusal := .next (issue (sendBody value) s)

/-- `B_IS_CONNECTED` (R238). -/
def isConnectedBody (s : State) : State := respond (zext16 (connected s)) s

/-- IS_CONNECTED (R238). -/
def execIsConnected (s : State) : Host.Outcome State Fault Refusal := .next (issue isConnectedBody s)

/-- `B_HAS_MESSAGE` (R239). -/
def hasMessageBody (peer : SlotId) (s : State) : State :=
  respond (zext16 (!fifoEmpty (slotGet s.incoming peer))) s

/-- HAS_MESSAGE (R239). -/
def execHasMessage (peer : SlotId) (s : State) : Host.Outcome State Fault Refusal :=
  .next (issue (hasMessageBody peer) s)

/-- `B_READ_MESSAGE` (R240). -/
def readMessageBody (peer : SlotId) (s : State) : State :=
  respond (fifoPop s.cfg.queueCapacity (slotGet s.incoming peer)).1
    { s with incoming := slotSet s.incoming peer (fifoPop s.cfg.queueCapacity (slotGet s.incoming peer)).2 }

/-- READ_MESSAGE (R240). -/
def execReadMessage (peer : SlotId) (s : State) : Host.Outcome State Fault Refusal :=
  .next (issue (readMessageBody peer) s)

end Sys2Proof.Machine
end

