-- ==== Sys2Proof/Machine/Events.lean ====
section
/-! DEFINITION. The three event handlers (spec/44_event_handlers.md): EV_FRAME_SYNC, EV_SERIAL, EV_TIMER; guarded
(R205). -/

namespace Sys2Proof.Machine

/-- `B_EV_FRAME_SYNC` (R206). -/
def frameSyncBody (s : State) : State :=
  respond 0x0000
    { s with
      irqTimeout := if s.irqFlag then s.irqTimeout else bumpStaleness s.irqTimeout
      irqFlag := false }

/-- EV_FRAME_SYNC (R206). -/
def execEvFrameSync (s : State) : Host.Outcome State Fault Refusal := .next (issue frameSyncBody s)

/-- One iteration of the slot loop (R207, R208): whether slot `i` is detected at this tick, and the state after. `own`
is the id held before this tick's re-read (R209). -/
def slotTick (own i : SlotId) (s : State) : Bool × State :=
  let r := slotGet s.rxslot i
  if r = disconnectedWord then tMiss i s
  else if r = noDataWord then tNodata i s
  else
    let (det, s) := tReal i s
    (det, if i ≠ own then pushIncoming i r s else s)

/-- The slot loop over the slots listed: how many were detected, and the state after. -/
def slotLoop (own : SlotId) : List SlotId → Nat → State → Nat × State
  | [], cnt, s => (cnt, s)
  | i :: is, cnt, s =>
    slotLoop own is (cnt + (if (slotTick own i s).1 then 1 else 0)) (slotTick own i s).2

/-- The secondary's reply (R212): nothing on a primary. -/
def secondaryReply (s : State) : State :=
  if isSecondary s then loadReply (nextOut s).1 (nextOut s).2 else s

/-- `B_EV_SERIAL` (R207): the liveness pair, the slot loop, `playerCount` (R210), the id re-read (R211), the reply
(R212). -/
def serialBody (s : State) : State :=
  let (cnt, t) := slotLoop s.currentPlayerId slotIds 0 { s with irqFlag := true, irqTimeout := 0 }
  respond 0x0000
    (secondaryReply { t with playerCount := BitVec.ofNat 3 cnt, currentPlayerId := ctrlId t.ctrl })

/-- EV_SERIAL (R207). -/
def execEvSerial (s : State) : Host.Outcome State Fault Refusal := .next (issue serialBody s)

/-- `B_EV_TIMER` (R215): the reset condition first, else the primary's send. -/
def timerBody (s : State) : State :=
  respond 0x0000
    (if resetNeeded s then
      forcedReset (absorbIf (stallReported s) .stall (absorbIf (transportErrorReported s) .transportError s))
    else if sendNow s then startExchange (nextOut s).1 (nextOut s).2
    else s)

/-- EV_TIMER (R215). -/
def execEvTimer (s : State) : Host.Outcome State Fault Refusal := .next (issue timerBody s)

end Sys2Proof.Machine
end

