-- ==== Sys2Proof/Machine/Lifecycle.lean ====
section
/-! DEFINITION. The lifecycle requests (spec/43_lifecycle.md): NOP, ACTIVATE, DEACTIVATE; unguarded, never skipped
(spec/42_sync_mux.md R163). -/

namespace Sys2Proof.Machine

/-- NOP (R191): no state change; the response is 0x0000. -/
def execNop (s : State) : Host.Outcome State Fault Refusal := .next (respond 0x0000 s)

/-- What ACTIVATE leaves (R187): `locked` cleared, `enabled` set. -/
def activateState (s : State) : State :=
  respond 0x0000 { timerStart (resetSession (transportConfig s)) with locked := false, enabled := true }

/-- ACTIVATE (R187). -/
def execActivate (s : State) : Host.Outcome State Fault Refusal := .next (activateState s)

/-- What DEACTIVATE leaves (R188). -/
def deactivateState (s : State) : State :=
  respond 0x0000 { resetSession (transportRelease (timerStop s)) with locked := false, enabled := false }

/-- DEACTIVATE (R188). -/
def execDeactivate (s : State) : Host.Outcome State Fault Refusal := .next (deactivateState s)

end Sys2Proof.Machine
end

