-- ==== Sys2Proof/Machine/Dispatch.lean ====
section
/-! DEFINITION. One arm per instruction: a direct call of its meaning. -/

namespace Sys2Proof.Machine

def exec (i : Instr) (s : State) : Host.Outcome State Fault Refusal :=
  match i with
  | .nop => Sys2Proof.Machine.execNop s
  | .activate => Sys2Proof.Machine.execActivate s
  | .deactivate => Sys2Proof.Machine.execDeactivate s
  | .send value => Sys2Proof.Machine.execSend value s
  | .isConnected => Sys2Proof.Machine.execIsConnected s
  | .hasMessage peer => Sys2Proof.Machine.execHasMessage peer s
  | .readMessage peer => Sys2Proof.Machine.execReadMessage peer s
  | .evFrameSync => Sys2Proof.Machine.execEvFrameSync s
  | .evSerial => Sys2Proof.Machine.execEvSerial s
  | .evTimer => Sys2Proof.Machine.execEvTimer s

end Sys2Proof.Machine
end

