-- ==== Sys2Proof/Machine/Request.lean ====
section
/-! DEFINITION. Presenting a label to the block: the request word (spec/42_sync_mux.md R165, spec/30_encoding.md R103),
the five kinds of step (R176), and where the next label comes from (log 4). -/

namespace Sys2Proof.Machine

/-- What a reserved word does (spec/30_encoding.md R103, R104; spec/60_exceptions.md R299): the response is 0x0000 and
nothing else changes. -/
def reservedRequest (s : State) : State := respond 0x0000 (absorb .reservedRequest s)

/-- `Req(w)`: decode `w` and perform its operation, or nothing for a reserved word. -/
def performRequest (w : ReqWord) (s : State) : Host.Outcome State Fault Refusal :=
  match decode w with
  | .ok i => exec i s
  | .error _ => .next (reservedRequest s)

/-- One step of R176 with its label. `Ext` while `enabled = 1` is refused (R170; log 7). -/
def performLabel (l : StepLabel) (s : State) : Host.Outcome State Fault Refusal :=
  match l with
  | .req w => performRequest w s
  | .retire => .next (retire s)
  | .env u => .next (envStep u s)
  | .ext u => if s.enabled then .refused .ownershipBroken else .next (extStep u s)
  | .rst => .next (hardReset s)

/-- A label taken as one step of its own: the ghost list starts empty (log 13). -/
def presentLabel (l : StepLabel) (s : State) : Host.Outcome State Fault Refusal :=
  performLabel l { s with absorbed := [] }

/-- The label of the next step: the oldest one waiting, else a free one (log 4). -/
def nextLabel (s : State) : StepLabel :=
  match s.inputs with
  | l :: _ => l
  | [] => Config.freeLabel s.draws

/-- The state once the next label has been taken off: the queue without it, or one more free value drawn. -/
def takeLabel (s : State) : State :=
  match s.inputs with
  | _ :: rest => { s with inputs := rest }
  | [] => { s with draws := s.draws + 1 }

/-- A list of labels presented one after another, stopping at the first refusal. -/
def presentLabels : List StepLabel → State → Host.Outcome State Fault Refusal
  | [], s => .next s
  | l :: ls, s =>
    match presentLabel l s with
    | .next t => presentLabels ls t
    | .fault r => .fault r
    | .refused r => .refused r

/-- A request and the RETIRE that ends its own lock window: none where a window is already open, for then the request
opens none of its own (spec/30_encoding.md R108 as spec/95_test_vectors.md P5 runs it; log 23). -/
def windowLabels (locked : Bool) (w : ReqWord) : List StepLabel :=
  if locked then [.req w] else [.req w, .retire]

end Sys2Proof.Machine
end

