-- ==== Sys2Proof/Machine/Step.lean ====
section
/-! DEFINITION. One step of the machine (spec/42_sync_mux.md R176). -/

namespace Sys2Proof.Machine

/-- One step: the next label, presented. A configuration outside the legal ranges is refused
(spec/70_reset_and_hazards.md R335; log 3). -/
def step (s : State) : Host.Outcome State Fault Refusal :=
  if s.cfg.legal then presentLabel (nextLabel s) (takeLabel s)
  else .refused .illegalConfiguration

/-- The state with a request word waiting as its next label: the request port presents it at the next step (log 5). -/
def State.withFetchWord (s : State) (nbits w : Nat) : State :=
  { s with inputs := .req (requestWordOfTable nbits w) :: s.inputs }

end Sys2Proof.Machine
end

