-- ==== Sys2Proof/Machine/Assembler.lean ====
section
/-! DEFINITION. The assembler syntax and the script lines (spec/30_encoding.md R107, R108). It carries no semantics of its
own (spec/92_eei_decisions.md D47): a line becomes request words and step labels. Text conventions: log 23. -/

namespace Sys2Proof.Machine

/-- The operation a well-formed request line names (R107); `none` for an ill-formed one. -/
def assembleInstr (r : AsmRequest) : Option Instr :=
  if r.wellFormed then
    match r.mnemonic with
    | .nop => some .nop
    | .activate => some .activate
    | .deactivate => some .deactivate
    | .send => some (.send (BitVec.ofNat 16 (r.operand.getD 0)))
    | .isConnected => some .isConnected
    | .hasMessage => some (.hasMessage (BitVec.ofNat 2 (r.operand.getD 0)))
    | .readMessage => some (.readMessage (BitVec.ofNat 2 (r.operand.getD 0)))
    | .evFrameSync => some .evFrameSync
    | .evSerial => some .evSerial
    | .evTimer => some .evTimer
  else none

/-- The request word a line assembles to (R107). -/
def assembleWord (r : AsmRequest) : Option ReqWord := (assembleInstr r).map encode

/-- The step labels a script line expands to, given whether a lock window is open before it (R108): a request is
followed at once by the RETIRE of its window unless it is held; an EXPECT line is no step. -/
def scriptLabels (locked : Bool) : ScriptLine → Option (List StepLabel)
  | .request r => (assembleWord r).map (windowLabels locked)
  | .hold r => (assembleWord r).map fun w => [.req w]
  | .retire => some [.retire]
  | .env u => some [.env u]
  | .ext u => some [.ext u]
  | .rst => some [.rst]
  | .expect _ => some []

/-- The numbers an EXPECT line compares (R108): a FIFO is its held sequence (spec/40_fifo.md R121), a counter its stored
byte (R102). -/
def observe (o : Observable) (s : State) : List Nat :=
  match o with
  | .resp => [s.resp.toNat]
  | .enabled => [s.enabled.toNat]
  | .locked => [s.locked.toNat]
  | .playerCount => [s.playerCount.toNat]
  | .currentPlayerId => [s.currentPlayerId.toNat]
  | .incoming i => (ringAbs s.cfg.queueCapacity (slotGet s.incoming i)).map BitVec.toNat
  | .outgoing => (ringAbs s.cfg.queueCapacity s.outgoing).map BitVec.toNat
  | .timeouts => slotIds.map fun i => (timeoutByte (slotGet s.timeouts i)).toNat
  | .timeout i => [(timeoutByte (slotGet s.timeouts i)).toNat]
  | .irqFlag => [s.irqFlag.toNat]
  | .irqTimeout => [s.irqTimeout.toNat]
  | .ctrl => [s.ctrl.toNat]
  | .ctrlSecondary => [(ctrlSecondary s.ctrl).toNat]
  | .ctrlReady => [(ctrlReady s.ctrl).toNat]
  | .ctrlId => [(ctrlId s.ctrl).toNat]
  | .ctrlError => [(ctrlError s.ctrl).toNat]
  | .ctrlStart => [(ctrlStart s.ctrl).toNat]
  | .ctrlMulti => [(ctrlMulti s.ctrl).toNat]
  | .ctrlOther => [(ctrlOther s.ctrl).toNat]
  | .mode => [s.mode.toNat]
  | .modeSel => [(modeSel s.mode).toNat]
  | .txdata => [s.txdata.toNat]
  | .rxslot => slotIds.map fun i => (slotGet s.rxslot i).toNat
  | .rxslotAt i => [(slotGet s.rxslot i).toNat]
  | .tmrSel => [s.tmrSel]
  | .tmrReload => [s.tmrReload.toNat]
  | .tmrEn => [s.tmrEn.toNat]
  | .tmrIrqEn => [s.tmrIrqEn.toNat]

/-- The output event a script's text stands for, under a configuration (spec/10_state.md R47). -/
def eventOfText (c : Config) : EventText → OutEvent
  | .txWrite v => .txWrite v
  | .exchangeStart v => .exchangeStart v
  | .transportConfig .multi => .transportConfig c.modeMulti
  | .transportConfig .gp => .transportConfig c.modeGp
  | .timerStart => .timerStart
  | .timerStop => .timerStop

/-- An assertion of an EXPECT line holds of a state (R108). -/
def expectHolds (s : State) : Expectation → Bool
  | .field o values => observe o s = values
  | .trace events => s.trace = events.map (eventOfText s.cfg)

/-- One script line run on a state: `none` where the line is ill formed, a step is refused or an EXPECT does not hold. -/
def runScriptLine (l : ScriptLine) (s : State) : Option State :=
  match l with
  | .expect what => if what.all (expectHolds s) then some s else none
  | l =>
    match scriptLabels s.locked l with
    | none => none
    | some ls =>
      match presentLabels ls s with
      | .next t => some t
      | .fault _ => none
      | .refused _ => none

/-- A script run line by line. -/
def runScript : List ScriptLine → State → Option State
  | [], s => some s
  | l :: ls, s => (runScriptLine l s).bind (runScript ls)

/-! ### Text -/

/-- A text line without its comment: `;` starts a comment to the end of the line (R107). -/
def stripComment (cs : List Char) : List Char := cs.takeWhile (· ≠ ';')

/-- The blanks that follow a comma removed, so that a list value is one token. -/
def dropListBlanks : Bool → List Char → List Char
  | _, [] => []
  | true, ' ' :: cs => dropListBlanks true cs
  | _, c :: cs => c :: dropListBlanks (c = ',') cs

/-- The pieces between occurrences of a character. -/
def splitAtChar (sep : Char) : List Char → List (List Char)
  | [] => [[]]
  | c :: cs =>
    if c = sep then [] :: splitAtChar sep cs
    else match splitAtChar sep cs with
      | [] => [[c]]
      | w :: ws => (c :: w) :: ws

/-- The tokens of a line: what stands between blanks, comments gone. -/
def lineTokens (cs : List Char) : List (List Char) :=
  (splitAtChar ' ' (dropListBlanks false (stripComment cs))).filter (· ≠ [])

/-- The value of a digit, hexadecimal digits among them. -/
def digitValue (c : Char) : Option Nat :=
  if '0' ≤ c ∧ c ≤ '9' then some (c.toNat - '0'.toNat)
  else if 'a' ≤ c ∧ c ≤ 'f' then some (c.toNat - 'a'.toNat + 10)
  else if 'A' ≤ c ∧ c ≤ 'F' then some (c.toNat - 'A'.toNat + 10)
  else none

/-- The number a run of digits in a base continues. -/
def digitsValue (base : Nat) : Nat → List Char → Option Nat
  | n, [] => some n
  | n, c :: cs =>
    match digitValue c with
    | some d => if d < base then digitsValue base (base * n + d) cs else none
    | none => none

/-- A decimal or `0x` hexadecimal number (R107). -/
def parseNumber : List Char → Option Nat
  | [] => none
  | '0' :: 'x' :: [] => none
  | '0' :: 'x' :: c :: cs => digitsValue 16 0 (c :: cs)
  | c :: cs => digitsValue 10 0 (c :: cs)

/-- A mnemonic in upper case (R107). -/
def parseMnemonic (cs : List Char) : Option Mnemonic :=
  if cs = "NOP".toList then some .nop
  else if cs = "ACTIVATE".toList then some .activate
  else if cs = "DEACTIVATE".toList then some .deactivate
  else if cs = "SEND".toList then some .send
  else if cs = "IS_CONNECTED".toList then some .isConnected
  else if cs = "HAS_MESSAGE".toList then some .hasMessage
  else if cs = "READ_MESSAGE".toList then some .readMessage
  else if cs = "EV_FRAME_SYNC".toList then some .evFrameSync
  else if cs = "EV_SERIAL".toList then some .evSerial
  else if cs = "EV_TIMER".toList then some .evTimer
  else none

/-- A request: the mnemonic, then at most one operand (R107). -/
def parseRequest : List (List Char) → Option AsmRequest
  | [m] => (parseMnemonic m).map fun m => ⟨m, none⟩
  | [m, n] => (parseMnemonic m).bind fun m => (parseNumber n).map fun n => ⟨m, some n⟩
  | _ => none

/-- A value of an ENV, EXT or EXPECT line: a number, or `OFF` and `OFFLINE` for the stored byte of an offline counter. -/
def parseScalar (cs : List Char) : Option Nat :=
  if cs = "OFF".toList ∨ cs = "OFFLINE".toList then some 0xFF else parseNumber cs

/-- A scalar, or a list of scalars in square brackets. -/
def parseValue : List Char → Option (List Nat)
  | ['[', ']'] => some []
  | '[' :: cs =>
    if cs.getLast? = some ']' then (splitAtChar ',' cs.dropLast).mapM parseScalar else none
  | cs => (parseScalar cs).map fun n => [n]

/-- A token `<field>=<value>`. -/
def parseAssignment (cs : List Char) : Option (List Char × List Nat) :=
  match splitAtChar '=' cs with
  | [name, v] => (parseValue v).map fun v => (name, v)
  | _ => none

/-- A one-bit value. -/
def bitValue : List Nat → Option Bool
  | [0] => some false
  | [1] => some true
  | _ => none

/-- A 16-bit value. -/
def wordValue : List Nat → Option Word
  | [n] => if n ≤ 65535 then some (BitVec.ofNat 16 n) else none
  | _ => none

/-- One field of an `ENV` line (R108). DESIGN CHOICE (log 23): the slots are named together, as the rule's example names
them, `RXSLOT=[a,b,c,d]`; a single slot `RXSLOT[k]=v` is no field of an `ENV` line. A value its field cannot hold makes the
line ill formed, and of a field named twice the last value counts. -/
def envField (u : EnvUpdate) (a : List Char × List Nat) : Option EnvUpdate :=
  if a.1 = "RXSLOT".toList then
    match a.2 with
    | [x, y, z, w] =>
      if x ≤ 65535 ∧ y ≤ 65535 ∧ z ≤ 65535 ∧ w ≤ 65535 then
        some { u with rxslot := some ⟨BitVec.ofNat 16 x, BitVec.ofNat 16 y, BitVec.ofNat 16 z, BitVec.ofNat 16 w⟩ }
      else none
    | _ => none
  else if a.1 = "CTRL.secondary".toList then (bitValue a.2).map fun b => { u with secondary := some b }
  else if a.1 = "CTRL.ready".toList then (bitValue a.2).map fun b => { u with ready := some b }
  else if a.1 = "CTRL.error".toList then (bitValue a.2).map fun b => { u with error := some b }
  else if a.1 = "CTRL.start".toList then (bitValue a.2).map fun b => { u with start := some b }
  else if a.1 = "CTRL.id".toList then
    match a.2 with
    | [n] => if n ≤ 3 then some { u with id := some (BitVec.ofNat 2 n) } else none
    | _ => none
  else none

/-- One field of an `EXT` line. DESIGN CHOICE (log 23): spec/92_eei_decisions.md D47 names `EXT` and no rule gives its text;
the line is written as an `ENV` line is, with the names of spec/42_sync_mux.md R172 and spec/10_state.md R44, and `MODE` as
one whole word; of a field named twice the last value counts, as on an `ENV` line. -/
def extField (u : ExtUpdate) (a : List Char × List Nat) : Option ExtUpdate :=
  if a.1 = "TXDATA".toList then (wordValue a.2).map fun w => { u with txdata := some w }
  else if a.1 = "MODE".toList then (wordValue a.2).map fun w => { u with mode := some w }
  else if a.1 = "CTRL.start".toList then (bitValue a.2).map fun b => { u with start := some b }
  else if a.1 = "CTRL.multi".toList then (bitValue a.2).map fun b => { u with multi := some b }
  else if a.1 = "CTRL.other".toList then (wordValue a.2).map fun w => { u with other := some w }
  else if a.1 = "TMR_RELOAD".toList then (wordValue a.2).map fun w => { u with tmrReload := some w }
  else if a.1 = "TMR_EN".toList then (bitValue a.2).map fun b => { u with tmrEn := some b }
  else if a.1 = "TMR_IRQ_EN".toList then (bitValue a.2).map fun b => { u with tmrIrqEn := some b }
  else none

/-- The names an EXPECT line may use for the response and the Session State (R108): the names of spec/10_state.md. -/
def sessionNames : List (String × Observable) :=
  [("resp", .resp), ("enabled", .enabled), ("locked", .locked), ("playerCount", .playerCount),
   ("currentPlayerId", .currentPlayerId), ("incoming[0]", .incoming 0), ("incoming[1]", .incoming 1),
   ("incoming[2]", .incoming 2), ("incoming[3]", .incoming 3), ("outgoing", .outgoing), ("timeouts", .timeouts),
   ("timeouts[0]", .timeout 0), ("timeouts[1]", .timeout 1), ("timeouts[2]", .timeout 2), ("timeouts[3]", .timeout 3),
   ("irqFlag", .irqFlag), ("irqTimeout", .irqTimeout)]

/-- The names an EXPECT line may use for the transport and the timer port (R108). -/
def registerNames : List (String × Observable) :=
  [("CTRL", .ctrl), ("CTRL.secondary", .ctrlSecondary), ("CTRL.ready", .ctrlReady), ("CTRL.id", .ctrlId),
   ("CTRL.error", .ctrlError), ("CTRL.start", .ctrlStart), ("CTRL.multi", .ctrlMulti), ("CTRL.other", .ctrlOther),
   ("MODE", .mode), ("MODE.sel", .modeSel), ("TXDATA", .txdata), ("RXSLOT", .rxslot), ("RXSLOT[0]", .rxslotAt 0),
   ("RXSLOT[1]", .rxslotAt 1), ("RXSLOT[2]", .rxslotAt 2), ("RXSLOT[3]", .rxslotAt 3), ("TMR_SEL", .tmrSel),
   ("TMR_RELOAD", .tmrReload), ("TMR_EN", .tmrEn), ("TMR_IRQ_EN", .tmrIrqEn)]

/-- What a name stands for in a table of names. -/
def lookupName {α : Type} (names : List (String × α)) (cs : List Char) : Option α :=
  (names.find? fun p => p.1.toList = cs).map Prod.snd

/-- What an EXPECT line may name, as it is written (R108). -/
def parseObservable (cs : List Char) : Option Observable := lookupName (sessionNames ++ registerNames) cs

/-- An output event as spec/95_test_vectors.md writes the trace (spec/10_state.md R47). -/
def parseEvent (cs : List Char) : Option EventText :=
  match splitAtChar '(' cs with
  | [name] =>
    if name = "TimerStart".toList then some .timerStart
    else if name = "TimerStop".toList then some .timerStop
    else none
  | [name, arg] =>
    if arg.getLast? = some ')' then
      if name = "TxWrite".toList then ((parseNumber arg.dropLast).bind fun n => wordValue [n]).map .txWrite
      else if name = "ExchangeStart".toList then ((parseNumber arg.dropLast).bind fun n => wordValue [n]).map .exchangeStart
      else if name = "TransportConfig".toList then
        (lookupName [("MODE_MULTI", .multi), ("MODE_GP", .gp)] arg.dropLast).map .transportConfig
      else none
    else none
  | _ => none

/-- The events of a trace, in square brackets. -/
def parseTrace : List Char → Option (List EventText)
  | ['[', ']'] => some []
  | '[' :: cs => if cs.getLast? = some ']' then (splitAtChar ',' cs.dropLast).mapM parseEvent else none
  | _ => none

/-- One `<field or resp>=<value>` of an EXPECT line (R108). -/
def parseExpectation (t : List Char) : Option Expectation :=
  match splitAtChar '=' t with
  | [name, v] =>
    if name = "trace".toList then (parseTrace v).map .trace
    else (parseObservable name).bind fun o => (parseValue v).map fun ns => .field o ns
  | _ => none

/-- One line of a one-device script as text (R107, R108); `none` where it is no such line. DESIGN CHOICE (log 23): the
assignments of an `ENV` or `EXT` line are taken from left to right, so of a field named twice the last value counts; every
assertion of an EXPECT line must hold; a line of these three kinds may name no field. -/
def parseScriptLine (cs : List Char) : Option ScriptLine :=
  match lineTokens cs with
  | [] => none
  | t :: ts =>
    if t = "HOLD".toList then (parseRequest ts).map .hold
    else if t = "RETIRE".toList then if ts = [] then some .retire else none
    else if t = "RST".toList then if ts = [] then some .rst else none
    else if t = "ENV".toList then
      ((ts.mapM parseAssignment).bind fun as => as.foldlM envField {}).map .env
    else if t = "EXT".toList then
      ((ts.mapM parseAssignment).bind fun as => as.foldlM extField {}).map .ext
    else if t = "EXPECT".toList then (ts.mapM parseExpectation).map .expect
    else (parseRequest (t :: ts)).map .request

/-- The lines of a text that hold more than blanks and a comment (R107). -/
def textLines (text : List Char) : List (List Char) :=
  (splitAtChar '\n' text).filter fun cs => lineTokens cs ≠ []

/-- A one-device script as text, one line each. -/
def parseScript (text : List Char) : Option (List ScriptLine) := (textLines text).mapM parseScriptLine

end Sys2Proof.Machine
end

