-- ==== Sys2Proof/Machine/Exchange.lean ====
section
/-! DEFINITION. The reference exchange `XCHG` (spec/42_sync_mux.md R175), which joins several devices, each an instance of
the block, for scripts. It is not part of the block: a claim about the block rests on `Env` (R171). PRESUMED by the spec
itself (general knowledge, spec/93_implementation_defined.md G9; log 22). -/

namespace Sys2Proof.Machine

/-- A device of a link: its fixed slot id and its block. -/
structure Device where
  id : SlotId
  state : State
deriving DecidableEq, Repr

/-- The standing environment of a device on the reference transport (R175). -/
def standingEnv (d : Device) : EnvUpdate :=
  { id := some d.id, secondary := some (d.id != 0), ready := some true, error := some false }

/-- A device under its standing environment. -/
def standDevice (d : Device) : Device := { d with state := envStep (standingEnv d) d.state }

/-- `w[k]`: the `TXDATA` of the device with id `k`, `DISCONNECTED` where no device has it (R175). -/
def exchangeWord (ds : List Device) (k : SlotId) : Word :=
  match ds.find? (fun d => d.id = k) with
  | some d => d.state.txdata
  | none => disconnectedWord

/-- The four words of an exchange (R175). -/
def exchangeWords (ds : List Device) : Slots Word :=
  ⟨exchangeWord ds 0, exchangeWord ds 1, exchangeWord ds 2, exchangeWord ds 3⟩

/-- The precondition of `XCHG` (R175): distinct ids, one device with id 0, whose `CTRL.start` is 1. -/
def exchangeReady (ds : List Device) : Bool :=
  (ds.map Device.id).Nodup &&
  (match ds.find? (fun d => d.id = 0) with
   | some d => ctrlStart d.state.ctrl
   | none => false)

/-- What the exchange does at one device (R175): the slots are filled, `CTRL.start` is cleared, then EV_SERIAL and its
RETIRE (inside an open lock window EV_SERIAL is skipped and the window stays open: spec/95_test_vectors.md P6). -/
def exchangeLabels (ws : Slots Word) (d : Device) : List StepLabel :=
  .env { standingEnv d with rxslot := some ws, start := some false } :: windowLabels d.state.locked 0x90000

/-- One device after the exchange; `none` where a step is refused (none of these is). -/
def exchangeAt (ws : Slots Word) (d : Device) : Option Device :=
  match presentLabels (exchangeLabels ws d) d.state with
  | .next t => some { d with state := t }
  | .fault _ => none
  | .refused _ => none

/-- `XCHG` over the devices (R175); `none` where its precondition fails. -/
def exchange (ds : List Device) : Option (List Device) :=
  if exchangeReady ds then ds.mapM (exchangeAt (exchangeWords ds)) else none

/-- One line of a script with several devices (spec/30_encoding.md R108): the reference exchange, or a line that applies to
the device it names. DESIGN CHOICE (log 23): the spec does not say what a line for a device that is not among the devices
does; here it has no result, as an ill-formed line. -/
def runLinkLine (l : LinkLine) (ds : List Device) : Option (List Device) :=
  match l with
  | .xchg => exchange ds
  | .device id line =>
    if ds.any fun d => d.id = id then
      ds.mapM fun d =>
        if d.id = id then (runScriptLine line d.state).map fun t => { d with state := t } else some d
    else none

/-- A script with several devices, all under their standing environment from the start (R175). -/
def runLinkScript (ls : List LinkLine) (ds : List Device) : Option (List Device) :=
  ls.foldlM (fun ds l => runLinkLine l ds) (ds.map standDevice)

/-! ### Text -/

/-- One line of a script with several devices as text (R108): `XCHG`, or `dev: <line>`, where `names` says which id the
device named `dev` has (log 23); `none` where it is no such line. -/
def parseLinkLine (names : List (String × SlotId)) (cs : List Char) : Option LinkLine :=
  match splitAtChar ':' (stripComment cs) with
  | [line] => if lineTokens line = ["XCHG".toList] then some .xchg else none
  | [dev, line] =>
    match lineTokens dev with
    | [d] => (lookupName names d).bind fun id => (parseScriptLine line).map (.device id)
    | _ => none
  | _ => none

/-- A script with several devices as text, one line each. -/
def parseLinkScript (names : List (String × SlotId)) (text : List Char) : Option (List LinkLine) :=
  (textLines text).mapM (parseLinkLine names)

end Sys2Proof.Machine
end

