-- ==== Sys2Proof/Machine/Ports.lean ====
section
/-! DEFINITION. The ports of the block (spec/42_sync_mux.md R174): its outputs as a view of the state, the event strobes
and the arbiter (R164, spec/30_encoding.md R96), and the local numbering of the transport registers for a bus wrapper
(spec/20_memory.md R62, R64). -/

namespace Sys2Proof.Machine

/-- The outputs of the block (R174). -/
structure OutputPorts where
  resp : Word
  playerCount : BitVec 3
  playerId : SlotId
  ctrlStart : Bool
  ctrlMulti : Bool
  ctrlOther : Word
  modeSel : BitVec 2
  txdata : Word
  tmrSel : Nat
  tmrReload : Word
  tmrEn : Bool
  tmrIrqEn : Bool
deriving DecidableEq, Repr

/-- What the ports carry at a step: the status outputs equal the fields always, with no guard (spec/10_state.md R45). -/
def outputPorts (s : State) : OutputPorts where
  resp := s.resp
  playerCount := s.playerCount
  playerId := s.currentPlayerId
  ctrlStart := ctrlStart s.ctrl
  ctrlMulti := ctrlMulti s.ctrl
  ctrlOther := ctrlOther s.ctrl
  modeSel := modeSel s.mode
  txdata := s.txdata
  tmrSel := s.tmrSel
  tmrReload := s.tmrReload
  tmrEn := s.tmrEn
  tmrIrqEn := s.tmrIrqEn

/-- What arrives at one moment: a word on the request port, and the three event strobes (R164). -/
structure Arrival where
  app : Option ReqWord
  frameSync : Bool
  serial : Bool
  timer : Bool
deriving DecidableEq, Repr

/-- The request words of an arrival, each strobe turned into its format E word (spec/30_encoding.md R96). -/
def arrivalWords (a : Arrival) : List ReqWord :=
  a.app.toList ++ (if a.frameSync then [0x80000] else []) ++ (if a.serial then [0x90000] else [])
    ++ (if a.timer then [0xA0000] else [])

/-- `ARB_ORDER` (R164): any order of the words of an arrival is a legal order of service (log 18). -/
abbrev IsServiceOrder (a : Arrival) (ws : List ReqWord) : Prop := ws.Perm (arrivalWords a)

/-- Words taken as consecutive `Req` steps with no RETIRE between them (R164). -/
def serveWords (ws : List ReqWord) (s : State) : Host.Outcome State Fault Refusal :=
  presentLabels (ws.map .req) s

/-- The transport register with local index `k` (spec/20_memory.md R62); no register above 6. -/
def transportRegister (s : State) (k : Nat) : Option Word :=
  match k with
  | 0 => some s.ctrl
  | 1 => some s.mode
  | 2 => some s.txdata
  | 3 => some s.rxslot.s0
  | 4 => some s.rxslot.s1
  | 5 => some s.rxslot.s2
  | 6 => some s.rxslot.s3
  | _ => none

/-- The byte at address `a` of a wrapper that maps the registers on a byte-addressed bus (log 27; nothing in the block reads
it). The low byte at the lower address is PRESUMED, the general knowledge of spec/20_memory.md R64. Where the registers lie
is a DESIGN CHOICE: the one with local index `k` at the wrapper's byte addresses `2k` and `2k + 1`; R69 leaves placement to
the platform and fixes only the local indices of R62. -/
def wrapperByte (s : State) (a : Nat) : Option (BitVec 8) :=
  (transportRegister s (a / 2)).map fun w => if a % 2 = 0 then w.extractLsb' 0 8 else w.extractLsb' 8 8

end Sys2Proof.Machine
end

