-- ==== Sys2Proof/Machine/Run.lean ====
section
/-! DEFINITION. Runs of one instance of the block (spec/42_sync_mux.md R176): when a step is enabled, finite and infinite
runs over freely chosen labels, and the weak fairness assumed for RETIRE (spec/20_memory.md R76, R162). Fairness is a
predicate of infinite runs; `step` takes any label it is given (log 17). -/

namespace Sys2Proof.Machine

/-- The enabling condition of the step with label `l` (R176, column "enabled when"). -/
def labelEnabled (l : StepLabel) (s : State) : Bool :=
  match l with
  | .req _ => true
  | .retire => s.locked
  | .env _ => true
  | .ext _ => !s.enabled
  | .rst => true

/-- The step relation (R176): `s` moves to `t` by the step labelled `l`, which is enabled. -/
def StepsTo (l : StepLabel) (s t : State) : Prop := labelEnabled l s = true ∧ presentLabel l s = .next t

/-- A finite run (R176): the labels taken in order lead from `s` to `t`. -/
def FiniteRun : List StepLabel → State → State → Prop
  | [], s, t => t = s
  | l :: ls, s, t => ∃ u, StepsTo l s u ∧ FiniteRun ls u t

/-- An infinite run (R176): step `k`, with the label `ls k`, leads from `σ k` to `σ (k + 1)`. -/
def InfiniteRun (ls : Nat → StepLabel) (σ : Nat → State) : Prop := ∀ k, StepsTo (ls k) (σ k) (σ (k + 1))

/-- Weak fairness of RETIRE (R76, R162): from no moment on is RETIRE enabled for ever and never taken. -/
def FairToRetire (ls : Nat → StepLabel) (σ : Nat → State) : Prop :=
  ∀ k, ∃ j, k ≤ j ∧ (labelEnabled .retire (σ j) = false ∨ ls j = .retire)

/-- A fair run: fairness is assumed for RETIRE only (R176). -/
def FairRun (ls : Nat → StepLabel) (σ : Nat → State) : Prop := InfiniteRun ls σ ∧ FairToRetire ls σ

/-- Every lock window is finite (R76; its length is any number of steps, R161). -/
def WindowsFinite (σ : Nat → State) : Prop := ∀ k, (σ k).locked = true → ∃ j, k < j ∧ (σ j).locked = false

/-- An infinite run of the machine's own `step`; its labels are those `nextLabel` takes from the state (log 4). -/
def MachineRun (σ : Nat → State) : Prop := ∀ k, step (σ k) = .next (σ (k + 1))

/-- A fair run of the machine's own `step`. -/
def FairMachineRun (σ : Nat → State) : Prop := MachineRun σ ∧ FairToRetire (fun k => nextLabel (σ k)) σ

end Sys2Proof.Machine
end

