-- ==== Sys2Proof/Safety.lean ====
section
/-! DEFINITION. What counts as a good state and as unchanged state, in the terms the statements use. -/

namespace Sys2Proof.Machine

/-- The five FIFOs have the canonical form of spec/40_fifo.md R126. -/
abbrev RingsWf (s : State) : Prop :=
  (∀ i, ringWf s.cfg.queueCapacity (slotGet s.incoming i)) ∧ ringWf s.cfg.queueCapacity s.outgoing

/-- The words FIFO `incoming[i]` holds, oldest first (spec/40_fifo.md R121). -/
def inbox (s : State) (i : SlotId) : List Word := ringAbs s.cfg.queueCapacity (slotGet s.incoming i)

/-- The words `outgoing` holds, oldest first. -/
def outbox (s : State) : List Word := ringAbs s.cfg.queueCapacity s.outgoing

/-- Every word of a queue is a real value (spec/10_state.md R33). -/
def NoSentinel (q : List Word) : Prop := ∀ v ∈ q, isRealValue v

/-- No sentinel is stored in any of the five queues (spec/10_state.md R33). -/
def QueuesReal (s : State) : Prop := (∀ i, NoSentinel (inbox s i)) ∧ NoSentinel (outbox s)

/-- A timeout counter in its range (spec/41_timeout_counter.md R140): a live count is below `REMOTE_TIMEOUT`. -/
def timeoutInRange (remoteTimeout : Nat) : Timeout → Prop
  | .offline => True
  | .live n => n < remoteTimeout

/-- The storage invariant: legal configuration, canonical rings, only real values queued, counters in range,
`playerCount` at most 4, `TMR_SEL = TIMER_ID`. -/
structure StorageInv (s : State) : Prop where
  legal : s.cfg.legal
  rings : RingsWf s
  real : QueuesReal s
  counters : ∀ i, timeoutInRange s.cfg.remoteTimeout (slotGet s.timeouts i)
  players : s.playerCount.toNat ≤ 4
  timerSlot : s.tmrSel = s.cfg.timerId

/-- Every Session State field but `enabled` and `locked` is at its session-reset value (spec/10_state.md R49). -/
structure SessionAtReset (s : State) : Prop where
  playerCount : s.playerCount = 0
  currentPlayerId : s.currentPlayerId = 0
  incoming : ∀ i, inbox s i = []
  outgoing : outbox s = []
  timeouts : ∀ i, slotGet s.timeouts i = .offline
  irqFlag : s.irqFlag = false
  irqTimeout : s.irqTimeout = 0

/-- The values spec/10_state.md R48 gives the power-on state; what it leaves unspecified is not here. -/
structure PowerOnState (s : State) : Prop where
  enabled : s.enabled = false
  locked : s.locked = false
  session : SessionAtReset s
  heads : ∀ i, (slotGet s.incoming i).head = 0
  outHead : s.outgoing.head = 0
  timerSlot : s.tmrSel = s.cfg.timerId
  timerOff : s.tmrEn = false
  timerIrqOff : s.tmrIrqEn = false
  trace : s.trace = []

/-- A state a run starts from (spec/42_sync_mux.md R176): the power-on state, whatever R48 leaves unspecified holds, with a
legal configuration and canonical rings. -/
structure RunStart (s : State) : Prop where
  legal : s.cfg.legal
  rings : RingsWf s
  powerOn : PowerOnState s

/-- A fair infinite run from a power-on state (spec/42_sync_mux.md R176, spec/20_memory.md R76). -/
def FairRunFromPowerOn (ls : Nat → StepLabel) (σ : Nat → State) : Prop := RunStart (σ 0) ∧ FairRun ls σ

/-- The owner-written transport fields that configure the link, and the timer port, are as ACTIVATE writes them
(spec/43_lifecycle.md R187). -/
structure LinkConfigured (s : State) : Prop where
  sel : modeSel s.mode = s.cfg.modeMulti
  multi : ctrlMulti s.ctrl = true
  other : ctrlOther s.ctrl = cfgOtherWord s.cfg
  reload : s.tmrReload = s.cfg.interval
  timerOn : s.tmrEn = true
  timerIrq : s.tmrIrqEn = true

/-- The session invariant: a lock window exists only while activated; while Inactive the session is at its reset
values; while activated the link stays configured; an offline slot holds no message; the staleness counter is 0 while
the serial flag is set. -/
structure SessionInv (s : State) : Prop where
  lockedEnabled : s.locked = true → s.enabled = true
  inactive : s.enabled = false → SessionAtReset s
  active : s.enabled = true → LinkConfigured s
  offlineEmpty : ∀ i, slotGet s.timeouts i = .offline → inbox s i = []
  fresh : s.irqFlag = true → s.irqTimeout = 0

/-- The state of the session and of the registers the block may write, with the trace: what a skipped request leaves
unchanged. Left out are the transport-owned fields and `CTRL.start`, which the environment may change, the response, the
ghost list, and the model's own queue and counter. -/
structure SameMachine (s t : State) : Prop where
  cfg : t.cfg = s.cfg
  enabled : t.enabled = s.enabled
  locked : t.locked = s.locked
  playerCount : t.playerCount = s.playerCount
  currentPlayerId : t.currentPlayerId = s.currentPlayerId
  incoming : t.incoming = s.incoming
  outgoing : t.outgoing = s.outgoing
  timeouts : t.timeouts = s.timeouts
  irqFlag : t.irqFlag = s.irqFlag
  irqTimeout : t.irqTimeout = s.irqTimeout
  multi : ctrlMulti t.ctrl = ctrlMulti s.ctrl
  other : ctrlOther t.ctrl = ctrlOther s.ctrl
  mode : t.mode = s.mode
  txdata : t.txdata = s.txdata
  tmrSel : t.tmrSel = s.tmrSel
  tmrReload : t.tmrReload = s.tmrReload
  tmrEn : t.tmrEn = s.tmrEn
  tmrIrqEn : t.tmrIrqEn = s.tmrIrqEn
  trace : t.trace = s.trace

/-- The Session State fields, `enabled` and `locked` among them (spec/00_scope.md R6). -/
structure SameSession (s t : State) : Prop where
  enabled : t.enabled = s.enabled
  locked : t.locked = s.locked
  playerCount : t.playerCount = s.playerCount
  currentPlayerId : t.currentPlayerId = s.currentPlayerId
  incoming : t.incoming = s.incoming
  outgoing : t.outgoing = s.outgoing
  timeouts : t.timeouts = s.timeouts
  irqFlag : t.irqFlag = s.irqFlag
  irqTimeout : t.irqTimeout = s.irqTimeout

/-- The transport-owned fields (spec/10_state.md R38, R43). -/
structure SameTransportOwned (s t : State) : Prop where
  rxslot : t.rxslot = s.rxslot
  secondary : ctrlSecondary t.ctrl = ctrlSecondary s.ctrl
  ready : ctrlReady t.ctrl = ctrlReady s.ctrl
  id : ctrlId t.ctrl = ctrlId s.ctrl
  error : ctrlError t.ctrl = ctrlError s.ctrl

/-- The transport and timer registers, all of them. -/
structure SameRegisters (s t : State) : Prop where
  ctrl : t.ctrl = s.ctrl
  mode : t.mode = s.mode
  txdata : t.txdata = s.txdata
  rxslot : t.rxslot = s.rxslot
  tmrSel : t.tmrSel = s.tmrSel
  tmrReload : t.tmrReload = s.tmrReload
  tmrEn : t.tmrEn = s.tmrEn
  tmrIrqEn : t.tmrIrqEn = s.tmrIrqEn

/-- A request word of a guarded operation (spec/42_sync_mux.md R159). -/
def Guarded : Instr → Prop
  | .nop => False
  | .activate => False
  | .deactivate => False
  | .send _ => True
  | .isConnected => True
  | .hasMessage _ => True
  | .readMessage _ => True
  | .evFrameSync => True
  | .evSerial => True
  | .evTimer => True

/-- A label that can neither end a lock window nor leave its session: a change of the transport's inputs, or a request
that is not ACTIVATE or DEACTIVATE (spec/42_sync_mux.md R161, R163). -/
def KeepsWindow : StepLabel → Prop
  | .req w => decode w ≠ .ok .activate ∧ decode w ≠ .ok .deactivate
  | .env _ => True
  | .retire => False
  | .ext _ => False
  | .rst => False

/-! ### What the shared writes leave, field by field -/

/-- The control register after the configuration write (spec/42_sync_mux.md R169): `multi` 1, `start` 0, `other` as
configured, the transport-owned fields as they were. -/
structure CtrlConfigured (cfg : Config) (before after : Word) : Prop where
  multi : ctrlMulti after = true
  start : ctrlStart after = false
  other : ctrlOther after = cfgOtherWord cfg
  secondary : ctrlSecondary after = ctrlSecondary before
  ready : ctrlReady after = ctrlReady before
  id : ctrlId after = ctrlId before
  error : ctrlError after = ctrlError before

/-- The control register with `start` set and nothing else changed (spec/42_sync_mux.md R167). -/
structure CtrlStarted (before after : Word) : Prop where
  start : ctrlStart after = true
  rest : after &&& 0xFF7F = before &&& 0xFF7F

/-- The mode register with `sel` written and `MODE[13:0]` undisturbed (spec/10_state.md R41). -/
structure ModeSelected (sel : BitVec 2) (before after : Word) : Prop where
  sel : modeSel after = sel
  low : after &&& 0x3FFF = before &&& 0x3FFF

/-- A FIFO that was cleared: no word held, the ring position 0, the storage not erased (spec/40_fifo.md R125). -/
structure RingCleared (C : Nat) (before after : Ring) : Prop where
  empty : ringAbs C after = []
  head : after.head = 0
  storage : after.mem = before.mem

/-- The storage words of a FIFO other than the one at position `k`. -/
def SameStorageBut (k : Nat) (before after : Ring) : Prop :=
  ∀ j, j ≠ k → after.mem.getD j 0 = before.mem.getD j 0

/-! ### The abstract FIFO (spec/40_fifo.md R121) -/

/-- `fifo_push` on the sequence (R122, R123). -/
def queuePush (C : Nat) (xs : List Word) (v : Word) : List Word :=
  if xs.length < C then xs ++ [v] else xs.tail ++ [v]

/-- `fifo_pop` on the sequence (R124). -/
def queuePop : List Word → Word × List Word
  | [] => (noDataWord, [])
  | x :: xs => (x, xs)

/-- The primitives that change a FIFO. -/
inductive FifoOp where
  | push (v : Word)
  | pop
  | clear
deriving DecidableEq, Repr

/-- A history of primitives on the concrete ring: the words its pops returned, and the ring after. -/
def runRing (C : Nat) : List FifoOp → Ring → List Word × Ring
  | [], q => ([], q)
  | .push v :: ops, q => runRing C ops (fifoPush C q v)
  | .pop :: ops, q => ((fifoPop C q).1 :: (runRing C ops (fifoPop C q).2).1, (runRing C ops (fifoPop C q).2).2)
  | .clear :: ops, q => runRing C ops (fifoClear q)

/-- The same history on the sequence. -/
def runQueue (C : Nat) : List FifoOp → List Word → List Word × List Word
  | [], xs => ([], xs)
  | .push v :: ops, xs => runQueue C ops (queuePush C xs v)
  | .pop :: ops, xs => ((queuePop xs).1 :: (runQueue C ops (queuePop xs).2).1, (runQueue C ops (queuePop xs).2).2)
  | .clear :: ops, _ => runQueue C ops []

/-- The words a history pushes, in order. -/
def pushedWords : List FifoOp → List Word
  | [] => []
  | .push v :: ops => v :: pushedWords ops
  | .pop :: ops => pushedWords ops
  | .clear :: ops => pushedWords ops

/-- What spec/40_fifo.md R128 asks of the primitives, for rings of capacity `C`; one field for each of its six properties. -/
structure FifoProperties (C : Nat) : Prop where
  /-- (1) The length never passes `C`. -/
  length_le : ∀ (ops : List FifoOp) (q : Ring), ringWf C q = true →
    ringWf C (runRing C ops q).2 = true ∧ fifoLen (runRing C ops q).2 ≤ C
  /-- (2) The words popped are a subsequence of the words pushed, in push order; `NO_DATA` from an empty FIFO is no word of
  it. -/
  order : ∀ (ops : List FifoOp) (q : Ring), ringWf C q = true → ringAbs C q = [] → NoSentinel (pushedWords ops) →
    ((runRing C ops q).1.filter isRealValue).Sublist (pushedWords ops)
  /-- (3) Pushes onto an empty FIFO leave the last `min(m, C)` words, in order. -/
  mostRecent : ∀ (vs : List Word) (q : Ring), ringWf C q = true → ringAbs C q = [] →
    ringAbs C (runRing C (vs.map .push) q).2 = vs.drop (vs.length - C) ∧
    (ringAbs C (runRing C (vs.map .push) q).2).length = min vs.length C
  /-- (4) A pop takes one word, and none from an empty FIFO. -/
  popLength : ∀ q : Ring,
    (fifoEmpty q = false → fifoLen (fifoPop C q).2 + 1 = fifoLen q) ∧ (fifoEmpty q = true → fifoEmpty (fifoPop C q).2 = true)
  /-- (5) A push onto a full FIFO leaves the length at `C`. -/
  pushFull : ∀ (q : Ring) (v : Word), fifoLen q = C → fifoLen (fifoPush C q v) = C
  /-- (6) No primitive returns or stores a sentinel, but for the `NO_DATA` of a pop from an empty FIFO. -/
  noSentinel : ∀ q : Ring, ringWf C q = true → NoSentinel (ringAbs C q) →
    (∀ v, isRealValue v → NoSentinel (ringAbs C (fifoPush C q v))) ∧
    NoSentinel (ringAbs C (fifoPop C q).2) ∧ NoSentinel (ringAbs C (fifoClear q)) ∧
    (isRealValue (fifoPop C q).1 ∨ fifoEmpty q = true ∧ (fifoPop C q).1 = noDataWord)

/-! ### The serial-complete tick (spec/44_event_handlers.md R208, R210) -/

/-- Slot `i` is detected at the tick that took `s` to `t` (R210): its word is not `DISCONNECTED`, or its counter is still
live after the tick's increment. -/
def detectedAt (s t : State) (i : SlotId) : Bool :=
  slotGet s.rxslot i ≠ disconnectedWord || isLive (slotGet t.timeouts i)

/-! ### Two devices (spec/45_app_operations.md R242) -/

/-- One delivery round on the reference transport: a timer tick at the device with id 0, the exchange, one READ_MESSAGE of
slot 0 at device `k`; the answer, and the link after. -/
def deliveryRound (k : SlotId) (ds : List Device) : Option (Word × List Device) :=
  ((runLinkLine (.device 0 (.request ⟨.evTimer, none⟩)) ds).bind fun ds =>
    (runLinkLine .xchg ds).bind fun ds =>
      runLinkLine (.device k (.request ⟨.readMessage, some 0⟩)) ds).bind fun ds =>
        (ds.find? fun d => d.id = k).map fun d => (d.state.resp, ds)

/-- The answers of `n` delivery rounds. -/
def deliveryRounds (k : SlotId) : Nat → List Device → Option (List Word)
  | 0, _ => some []
  | n + 1, ds =>
    (deliveryRound k ds).bind fun r => (deliveryRounds k n r.2).map fun ws => r.1 :: ws

end Sys2Proof.Machine
end

