-- ==== Sys2Proof/Certificates/Slice0/Obligations.lean ====
section
/-! DEFINITION. The statements about the block, one Prop each. `C` is the configured queue capacity. The ghost list
`absorbed` is the one of spec/60_exceptions.md R319 (log 13); a statement that names it says which fault the rule names. -/

open Sys2Proof Sys2Proof.Machine

/-! ### Encoding -/

/-- Decoding the request word of an operation gives the operation back, every operand at every value. -/
def Obligations.DecodeInvertsEncode : Prop :=
  ∀ i : Instr, decode (encode i) = .ok i

/-- A request word that decodes to an operation is the word of that operation. -/
def Obligations.EncodeInvertsDecode : Prop :=
  ∀ (w : ReqWord) (i : Instr), decode w = .ok i → encode i = w

/-- R97: the decode procedure, opcode by opcode. -/
def Obligations.DecodeReadsOpcodeAndArgument : Prop :=
  ∀ w : ReqWord,
    let opc := w.extractLsb' 16 4
    let arg := w.extractLsb' 0 16
    (opc = 0x7 ∨ 0xB ≤ opc → decode w = .error (.opcode opc)) ∧
    (opc = 0x3 → decode w = .ok (.send arg)) ∧
    (opc = 0x5 → decode w =
      if w.extractLsb' 2 14 = 0 then .ok (.hasMessage (w.extractLsb' 0 2)) else .error (.argument opc arg)) ∧
    (opc = 0x6 → decode w =
      if w.extractLsb' 2 14 = 0 then .ok (.readMessage (w.extractLsb' 0 2)) else .error (.argument opc arg)) ∧
    (opc = 0x0 → decode w = if arg = 0 then .ok .nop else .error (.argument opc arg)) ∧
    (opc = 0x1 → decode w = if arg = 0 then .ok .activate else .error (.argument opc arg)) ∧
    (opc = 0x2 → decode w = if arg = 0 then .ok .deactivate else .error (.argument opc arg)) ∧
    (opc = 0x4 → decode w = if arg = 0 then .ok .isConnected else .error (.argument opc arg)) ∧
    (opc = 0x8 → decode w = if arg = 0 then .ok .evFrameSync else .error (.argument opc arg)) ∧
    (opc = 0x9 → decode w = if arg = 0 then .ok .evSerial else .error (.argument opc arg)) ∧
    (opc = 0xA → decode w = if arg = 0 then .ok .evTimer else .error (.argument opc arg))

/-- Every 20-bit word either selects exactly one row of the opcode map, the row of the operation it decodes to, or selects
none and is reserved. -/
def Obligations.DecodeAgreesWithOpcodeMap : Prop :=
  ∀ w : ReqWord,
    (∃ i r, decode w = .ok i ∧ r ∈ opcodeTable ∧ r.mnemonic = i.mnemonic ∧
      ∀ r' ∈ opcodeTable, r'.selects w = true ↔ r' = r) ∨
    (∃ e, decode w = .error e ∧ ∀ r ∈ opcodeTable, r.selects w = false)

/-- Words written out from R92 decode to their operations; words R103 and R104 reserve do not decode. -/
def Obligations.SampleWordsDecode : Prop :=
  decode 0b00000000000000000000 = .ok .nop ∧
  decode 0b00010000000000000000 = .ok .activate ∧
  decode 0b00110001001000110100 = .ok (.send 0x1234) ∧
  decode 0b01010000000000000011 = .ok (.hasMessage 3) ∧
  decode 0b01100000000000000010 = .ok (.readMessage 2) ∧
  decode 0b10100000000000000000 = .ok .evTimer ∧
  decode 0x70000 = .error (.opcode 0x7) ∧
  decode 0x50004 = .error (.argument 0x5 0x0004)

/-- R102 (the spec's decision D18): the stored byte of a live counter is its count; `OFFLINE` is stored as 0xFF; a byte
gives its counter back; with `REMOTE_TIMEOUT <= 254` a live counter in its range is never stored as 0xFF. -/
def Obligations.TimeoutByteRoundTrip : Prop :=
  timeoutByte .offline = 0xFF ∧ timeoutOfByte 0xFF = .offline ∧
  (∀ n : Nat, n ≤ 0xFE →
    (timeoutByte (.live n)).toNat = n ∧ timeoutOfByte (timeoutByte (.live n)) = .live n) ∧
  (∀ b : BitVec 8, b ≠ 0xFF → timeoutOfByte b = .live b.toNat) ∧
  (∀ remoteTimeout n : Nat, remoteTimeout ≤ 254 → timeoutInRange remoteTimeout (.live n) →
    timeoutByte (.live n) ≠ 0xFF)

/-- R107's examples of the assembler syntax, from text to request word. -/
def Obligations.AssemblerExamples : Prop :=
  ((parseRequest (lineTokens "SEND 0x1234".toList)).bind assembleWord = some 0x31234) ∧
  ((parseRequest (lineTokens "READ_MESSAGE 2 ; a comment".toList)).bind assembleWord = some 0x60002) ∧
  ((parseRequest (lineTokens "EV_SERIAL".toList)).bind assembleWord = some 0x90000) ∧
  ((parseRequest (lineTokens "ACTIVATE".toList)).bind assembleWord = some 0x10000) ∧
  ((parseRequest (lineTokens "HAS_MESSAGE 4".toList)).bind assembleWord = none)

/-! ### Steps, requests and the guard -/

/-- A step runs the decoded instruction: when the next label is a request word that decodes to `i`, the step is `exec i`
with the label taken off and the ghost list emptied; a word placed by `withFetchWord` is that label. -/
def Obligations.StepRunsDecodedInstruction : Prop :=
  (∀ (s : State) (w : ReqWord) (rest : List StepLabel) (i : Instr), s.cfg.legal = true →
    s.inputs = .req w :: rest → decode w = .ok i →
      step s = exec i { s with inputs := rest, absorbed := [] }) ∧
  (∀ (s : State) (i : Instr), s.cfg.legal = true →
    step (s.withFetchWord 24 (encode i).toNat) = exec i { s with absorbed := [] })

/-- R103, R104, R299: a word with a reserved opcode or with reserved argument bits set is accepted and does nothing; the
response is 0x0000. -/
def Obligations.ReservedWordDoesNothing : Prop :=
  ∀ (s : State) (w : ReqWord) (rest : List StepLabel), s.cfg.legal = true → s.inputs = .req w :: rest →
    (let opc := w.extractLsb' 16 4
     (opc = 0x7 ∨ 0xB ≤ opc) ∨
     (opc ∈ [0x0#4, 0x1#4, 0x2#4, 0x4#4, 0x8#4, 0x9#4, 0xA#4] ∧ w.extractLsb' 0 16 ≠ 0) ∨
     (opc ∈ [0x5#4, 0x6#4] ∧ w.extractLsb' 2 14 ≠ 0)) →
    step s = .next { s with inputs := rest, resp := 0x0000, absorbed := [.reservedRequest] }

/-- R236: a guarded request that finds `locked = 1` or `enabled = 0` changes nothing and answers 0x0000; the fault noted is
`F_CONTENTION`. -/
def Obligations.SkippedRequestDoesNothing : Prop :=
  ∀ (i : Instr) (s : State), Guarded i → s.locked = true ∨ s.enabled = false →
    exec i s = .next { s with resp := 0x0000, absorbed := s.absorbed ++ [.contention] }

/-- A guarded request that passes the guard opens a lock window: `locked` is set, `enabled` stays set, and the three
handlers answer 0x0000. -/
def Obligations.IssueOpensLockWindow : Prop :=
  ∀ (i : Instr) (s : State), Guarded i → s.locked = false → s.enabled = true →
    ∃ t, exec i s = .next t ∧ t.locked = true ∧ t.enabled = true ∧ t.cfg = s.cfg ∧
      (i = .evFrameSync ∨ i = .evSerial ∨ i = .evTimer → t.resp = 0x0000)

/-- R162: RETIRE clears `locked` and changes nothing else. -/
def Obligations.RetireEndsWindow : Prop :=
  ∀ (s : State) (rest : List StepLabel), s.cfg.legal = true → s.inputs = .retire :: rest → s.locked = true →
    step s = .next { s with inputs := rest, locked := false, absorbed := [] }

/-- Inside a lock window, however long, nothing but the transport's own inputs changes: every guarded request, NOP and
reserved word leaves the session, the registers the block writes, and the trace as they were. -/
def Obligations.LockWindowDropsEverything : Prop :=
  ∀ (ls : List StepLabel) (s : State), s.locked = true → s.enabled = true → (∀ l ∈ ls, KeepsWindow l) →
    ∃ t, presentLabels ls s = .next t ∧ SameMachine s t

/-- Requests that arrive together are served in some order; when all are guarded, the first has its effect and the others
none, whatever the order. -/
def Obligations.SimultaneousArrivalServesFirst : Prop :=
  ∀ (a : Arrival) (w : ReqWord) (ws : List ReqWord) (s : State), IsServiceOrder a (w :: ws) →
    guardPasses s = true → (∀ v ∈ w :: ws, ∃ i, decode v = .ok i ∧ Guarded i) →
    ∃ u t, presentLabel (.req w) s = .next u ∧ serveWords (w :: ws) s = .next t ∧
      SameMachine u t ∧ SameRegisters u t

/-- Every step of a legal configuration has a next state, but for an external write while the block owns the transport,
which is refused. -/
def Obligations.StepNeverFaults : Prop :=
  ∀ s : State, s.cfg.legal = true →
    (∃ t, step s = .next t) ∨
    ((∃ u, nextLabel s = .ext u) ∧ s.enabled = true ∧ step s = .refused .ownershipBroken)

/-- A configuration outside the legal ranges is refused (R335). -/
def Obligations.IllegalConfigurationRefused : Prop :=
  ∀ s : State,
    (254 < s.cfg.tickThreshold ∨ s.cfg.remoteTimeout = 0 ∨ 254 < s.cfg.remoteTimeout ∨ s.cfg.queueCapacity = 0 ∨
      255 < s.cfg.queueCapacity ∨ s.cfg.nTimers ≤ s.cfg.timerId) →
    step s = .refused .illegalConfiguration

/-- A run of as many steps as labels are waiting presents exactly those labels, in order. The queue of labels is the model's
own, its choice of how a scheduler's order is held as data (log 4); the spec has no such queue. -/
def Obligations.RunPresentsWaitingLabels : Prop :=
  ∀ (ls rest : List StepLabel) (s t : State), s.cfg.legal = true → s.inputs = ls ++ rest →
    presentLabels ls { s with inputs := rest } = .next t →
    Host.Core.run Sys2Proof.core ls.length s = .next t

/-! ### Lifecycle -/

/-- R191 (the spec's decision D3): NOP, the word 0x00000, changes nothing in any state and answers 0x0000; a reserved word
does the same (the fault it notes in the ghost list apart). -/
def Obligations.NopDoesNothing : Prop :=
  decode 0x00000 = .ok .nop ∧ (∀ s : State, exec .nop s = .next { s with resp := 0x0000 }) ∧
  (∀ (s : State) (w : ReqWord) (e : ReservedWord), decode w = .error e →
    performRequest w s = .next { s with resp := 0x0000, absorbed := s.absorbed ++ [.reservedRequest] })

/-- R187: what ACTIVATE writes, from any state, and that it writes nothing else. -/
def Obligations.ActivateResult : Prop :=
  ∀ s : State, s.cfg.legal = true → ∃ c m inc out,
    exec .activate s = .next { s with
      enabled := true, locked := false, playerCount := 0, currentPlayerId := 0, incoming := inc, outgoing := out,
      timeouts := ⟨.offline, .offline, .offline, .offline⟩, irqFlag := false, irqTimeout := 0,
      ctrl := c, mode := m, txdata := 0x0000,
      tmrReload := s.cfg.interval, tmrEn := true, tmrIrqEn := true, resp := 0x0000,
      trace := s.trace ++ [.transportConfig s.cfg.modeMulti, .timerStart] } ∧
    CtrlConfigured s.cfg s.ctrl c ∧ ModeSelected s.cfg.modeMulti s.mode m ∧
    (∀ i, RingCleared s.cfg.queueCapacity (slotGet s.incoming i) (slotGet inc i)) ∧
    RingCleared s.cfg.queueCapacity s.outgoing out

/-- R188: what DEACTIVATE writes, from any state; `CTRL` and `TXDATA` are left. -/
def Obligations.DeactivateResult : Prop :=
  ∀ s : State, ∃ m inc out,
    exec .deactivate s = .next { s with
      enabled := false, locked := false, playerCount := 0, currentPlayerId := 0, incoming := inc, outgoing := out,
      timeouts := ⟨.offline, .offline, .offline, .offline⟩, irqFlag := false, irqTimeout := 0,
      mode := m, tmrEn := false, tmrIrqEn := false, resp := 0x0000,
      trace := s.trace ++ [.timerStop, .transportConfig s.cfg.modeGp] } ∧
    ModeSelected s.cfg.modeGp s.mode m ∧
    (∀ i, RingCleared s.cfg.queueCapacity (slotGet s.incoming i) (slotGet inc i)) ∧
    RingCleared s.cfg.queueCapacity s.outgoing out

/-- ACTIVATE, DEACTIVATE and NOP issued twice leave the state of once, but for the trace. -/
def Obligations.LifecycleRequestsIdempotent : Prop :=
  ∀ (i : Instr) (s : State), i = .activate ∨ i = .deactivate ∨ i = .nop →
    ∃ t u, exec i s = .next t ∧ exec i t = .next u ∧ { u with trace := t.trace } = t

/-- R336: the state after ACTIVATE is the same whatever came before, up to the transport-owned inputs and `MODE[13:0]`
(of a FIFO, the held sequence). -/
def Obligations.ActivateForgetsThePast : Prop :=
  ∀ s s' : State, s.cfg.legal = true → s'.cfg = s.cfg → s'.tmrSel = s.tmrSel → SameTransportOwned s s' →
    s'.mode &&& 0x3FFF = s.mode &&& 0x3FFF →
    ∃ t t', exec .activate s = .next t ∧ exec .activate s' = .next t' ∧
      t'.enabled = t.enabled ∧ t'.locked = t.locked ∧ t'.playerCount = t.playerCount ∧
      t'.currentPlayerId = t.currentPlayerId ∧ (∀ i, inbox t' i = inbox t i) ∧ outbox t' = outbox t ∧
      t'.timeouts = t.timeouts ∧ t'.irqFlag = t.irqFlag ∧ t'.irqTimeout = t.irqTimeout ∧
      SameRegisters t t' ∧ t'.resp = t.resp

/-- R192: the hardware reset puts the block in the power-on state; the transport registers keep what they hold; nothing is
said of `TMR_RELOAD`. -/
def Obligations.HardwareResetResult : Prop :=
  ∀ (s : State) (rest : List StepLabel), s.cfg.legal = true → s.inputs = .rst :: rest → ∃ inc out reload resp draws,
    step s = .next { s with
      enabled := false, locked := false, playerCount := 0, currentPlayerId := 0, incoming := inc, outgoing := out,
      timeouts := ⟨.offline, .offline, .offline, .offline⟩, irqFlag := false, irqTimeout := 0,
      tmrSel := s.cfg.timerId, tmrReload := reload, tmrEn := false, tmrIrqEn := false,
      trace := [], resp := resp, draws := draws, inputs := rest, absorbed := [] } ∧
    (∀ i, RingCleared s.cfg.queueCapacity (slotGet s.incoming i) (slotGet inc i)) ∧
    RingCleared s.cfg.queueCapacity s.outgoing out

/-- R48, R49 (the spec's decisions D25, D18, D24): the state after reset has every value the spec gives the power-on state,
and so has the state after the hardware reset input. The values of what R48 leaves unspecified are not stated. -/
def Obligations.ResetStateValues : Prop :=
  PowerOnState State.reset ∧
  ∀ (s : State) (rest : List StepLabel), s.cfg.legal = true → s.inputs = .rst :: rest →
    ∃ t, step s = .next t ∧ PowerOnState t

/-! ### Event handlers -/

/-- R206: the frame-sync tick counts a missed frame, saturating at 255, and clears `irqFlag`; nothing else changes. -/
def Obligations.FrameSyncResult : Prop :=
  ∀ s : State, s.locked = false → s.enabled = true → ∃ n : BitVec 8,
    exec .evFrameSync s = .next { s with locked := true, irqFlag := false, irqTimeout := n, resp := 0x0000 } ∧
    n.toNat = if s.irqFlag = true then s.irqTimeout.toNat else min (s.irqTimeout.toNat + 1) 255

/-- R208: the table of the serial-complete tick, slot by slot: counter and queue, with the storage words it leaves. -/
def Obligations.SerialTickSlotTable : Prop :=
  ∀ s : State, s.locked = false → s.enabled = true → RingsWf s → ∃ t, exec .evSerial s = .next t ∧
    ∀ i : SlotId,
      (slotGet s.rxslot i = 0xFFFF → slotGet s.timeouts i = .offline →
        slotGet t.timeouts i = .offline ∧ slotGet t.incoming i = slotGet s.incoming i) ∧
      (∀ n, slotGet s.rxslot i = 0xFFFF → slotGet s.timeouts i = .live n → n + 1 < s.cfg.remoteTimeout →
        slotGet t.timeouts i = .live (n + 1) ∧ slotGet t.incoming i = slotGet s.incoming i) ∧
      (∀ n, slotGet s.rxslot i = 0xFFFF → slotGet s.timeouts i = .live n → s.cfg.remoteTimeout ≤ n + 1 →
        slotGet t.timeouts i = .offline ∧
        RingCleared s.cfg.queueCapacity (slotGet s.incoming i) (slotGet t.incoming i)) ∧
      (slotGet s.rxslot i = 0x0000 →
        slotGet t.timeouts i = (if slotGet s.timeouts i = .offline then .offline else .live 0) ∧
        slotGet t.incoming i = slotGet s.incoming i) ∧
      (slotGet s.rxslot i ≠ 0xFFFF → slotGet s.rxslot i ≠ 0x0000 →
        slotGet t.timeouts i = .live 0 ∧
        (i ≠ s.currentPlayerId →
          inbox t i = queuePush s.cfg.queueCapacity (inbox s i) (slotGet s.rxslot i) ∧
          SameStorageBut (pushIndex s.cfg.queueCapacity (slotGet s.incoming i)) (slotGet s.incoming i)
            (slotGet t.incoming i)) ∧
        (i = s.currentPlayerId → slotGet t.incoming i = slotGet s.incoming i))

/-- R210: `playerCount` is the number of slots detected at this tick, counted anew. -/
def Obligations.SerialTickCountsDetectedSlots : Prop :=
  ∀ s : State, s.locked = false → s.enabled = true → ∃ t, exec .evSerial s = .next t ∧
    t.playerCount.toNat = (([0, 1, 2, 3] : List SlotId).filter (detectedAt s t)).length ∧ t.playerCount.toNat ≤ 4

/-- R211: the id is re-read from CTRL[5:4]. R207: `irqFlag` is set and `irqTimeout` zeroed, which the spec marks as its own
inference ("implied ..., not stated outright", decision D15). R205, R207: `locked` is left set, the response is 0x0000, and
the registers the tick does not write keep their values. -/
def Obligations.SerialTickRereadsId : Prop :=
  ∀ s : State, s.locked = false → s.enabled = true → ∃ t, exec .evSerial s = .next t ∧
    t.currentPlayerId = s.ctrl.extractLsb' 4 2 ∧ t.irqFlag = true ∧ t.irqTimeout = 0 ∧ t.resp = 0x0000 ∧
    t.locked = true ∧ t.enabled = true ∧ t.cfg = s.cfg ∧
    t.ctrl = s.ctrl ∧ t.mode = s.mode ∧ t.rxslot = s.rxslot ∧
    t.tmrSel = s.tmrSel ∧ t.tmrReload = s.tmrReload ∧ t.tmrEn = s.tmrEn ∧ t.tmrIrqEn = s.tmrIrqEn ∧
    t.inputs = s.inputs ∧ t.draws = s.draws

/-- R212: a secondary loads the oldest word of `outgoing`, or `NO_DATA`, into `TXDATA`; a primary touches neither. -/
def Obligations.SecondaryRepliesAtSerialTick : Prop :=
  ∀ s : State, s.locked = false → s.enabled = true → RingsWf s → ∃ t, exec .evSerial s = .next t ∧
    (ctrlSecondary s.ctrl = true →
      t.txdata = (queuePop (outbox s)).1 ∧ outbox t = (queuePop (outbox s)).2 ∧ t.outgoing.mem = s.outgoing.mem ∧
      t.trace = s.trace ++ [.txWrite (queuePop (outbox s)).1] ∧ ctrlStart t.ctrl = ctrlStart s.ctrl) ∧
    (ctrlSecondary s.ctrl = false → t.txdata = s.txdata ∧ t.outgoing = s.outgoing ∧ t.trace = s.trace)

/-- The order in which the serial-complete tick visits the four slots does not matter (the ghost list apart). -/
def Obligations.SlotOrderDoesNotMatter : Prop :=
  ∀ (own : SlotId) (is : List SlotId) (n : Nat) (s : State), is.Perm [0, 1, 2, 3] →
    (slotLoop own is n s).1 = (slotLoop own [0, 1, 2, 3] n s).1 ∧
    { (slotLoop own is n s).2 with absorbed := [] } = { (slotLoop own [0, 1, 2, 3] n s).2 with absorbed := [] }

/-- R213 with R189: at a timer tick with ready and error both set, or with `irqTimeout` above the threshold, the forced reset
and nothing else: the session fields reset, the transport reconfigured, the timer restarted, nothing sent, `enabled` kept
and `locked` set until RETIRE. That the ghost list notes both faults when both conditions hold, `F_TRANSPORT_ERROR` before
`F_STALL`, is the model's choice (log 13); R294 says the two are not told apart. -/
def Obligations.TimerTickForcesReset : Prop :=
  ∀ s : State, s.cfg.legal = true → s.locked = false → s.enabled = true →
    ((ctrlReady s.ctrl = true ∧ ctrlError s.ctrl = true) ∨ s.cfg.tickThreshold < s.irqTimeout.toNat) →
    ∃ c m inc out,
      exec .evTimer s = .next { s with
        locked := true, playerCount := 0, currentPlayerId := 0, incoming := inc, outgoing := out,
        timeouts := ⟨.offline, .offline, .offline, .offline⟩, irqFlag := false, irqTimeout := 0,
        ctrl := c, mode := m, txdata := 0x0000,
        tmrReload := s.cfg.interval, tmrEn := true, tmrIrqEn := true, resp := 0x0000,
        trace := s.trace ++ [.transportConfig s.cfg.modeMulti, .timerStart],
        absorbed := s.absorbed ++
          (if ctrlReady s.ctrl = true ∧ ctrlError s.ctrl = true then [.transportError] else []) ++
          (if s.cfg.tickThreshold < s.irqTimeout.toNat then [.stall] else []) } ∧
      CtrlConfigured s.cfg s.ctrl c ∧ ModeSelected s.cfg.modeMulti s.mode m ∧
      (∀ i, RingCleared s.cfg.queueCapacity (slotGet s.incoming i) (slotGet inc i)) ∧
      RingCleared s.cfg.queueCapacity s.outgoing out

/-- R214: with no reset condition, a primary that is ready and idle starts an exchange with the oldest word of `outgoing`,
or `NO_DATA`; nothing else changes. -/
def Obligations.PrimarySendsAtTimerTick : Prop :=
  ∀ s : State, s.locked = false → s.enabled = true → RingsWf s →
    ¬(ctrlReady s.ctrl = true ∧ ctrlError s.ctrl = true) → s.irqTimeout.toNat ≤ s.cfg.tickThreshold →
    ctrlSecondary s.ctrl = false → ctrlReady s.ctrl = true → ctrlStart s.ctrl = false →
    ∃ c out,
      exec .evTimer s = .next { s with
        locked := true, txdata := (queuePop (outbox s)).1, ctrl := c, outgoing := out, resp := 0x0000,
        trace := s.trace ++ [.exchangeStart (queuePop (outbox s)).1] } ∧
      CtrlStarted s.ctrl c ∧ ringAbs s.cfg.queueCapacity out = (queuePop (outbox s)).2 ∧ out.mem = s.outgoing.mem

/-- With neither condition a timer tick changes nothing but `locked`: a secondary, a primary not ready or mid-transfer. -/
def Obligations.TimerTickIdles : Prop :=
  ∀ s : State, s.locked = false → s.enabled = true →
    ¬(ctrlReady s.ctrl = true ∧ ctrlError s.ctrl = true) → s.irqTimeout.toNat ≤ s.cfg.tickThreshold →
    (ctrlSecondary s.ctrl = true ∨ ctrlReady s.ctrl = false ∨ ctrlStart s.ctrl = true) →
    exec .evTimer s = .next { s with locked := true, resp := 0x0000 }

/-- A forced reset happened at a timer tick exactly when the tick appended a multiplayer configuration event. -/
def Obligations.TraceShowsForcedReset : Prop :=
  ∀ s : State, ∃ t es, exec .evTimer s = .next t ∧ t.trace = s.trace ++ es ∧
    (.transportConfig s.cfg.modeMulti ∈ es ↔ guardPasses s = true ∧ resetNeeded s = true)

/-! ### Application operations -/

/-- R237: SEND of a value that is neither sentinel queues it, dropping the oldest when the queue is full; nothing else
changes but `locked`. -/
def Obligations.SendQueuesRealValue : Prop :=
  ∀ (s : State) (v : Word), s.locked = false → s.enabled = true → RingsWf s → v ≠ 0xFFFF → v ≠ 0x0000 → ∃ out,
    exec (.send v) s = .next { s with
      locked := true, outgoing := out, resp := 0x0000,
      absorbed := s.absorbed ++ (if s.cfg.queueCapacity ≤ (outbox s).length then [.overflow] else []) } ∧
    ringAbs s.cfg.queueCapacity out = queuePush s.cfg.queueCapacity (outbox s) v ∧
    ringWf s.cfg.queueCapacity out = true ∧
    SameStorageBut (pushIndex s.cfg.queueCapacity s.outgoing) s.outgoing out

/-- R297: SEND of a sentinel is dropped; the lock window opens all the same. -/
def Obligations.SendDropsSentinel : Prop :=
  ∀ (s : State) (v : Word), s.locked = false → s.enabled = true → v = 0xFFFF ∨ v = 0x0000 →
    exec (.send v) s = .next { s with
      locked := true, resp := 0x0000, absorbed := s.absorbed ++ [.sentinelSend] }

/-- R238: IS_CONNECTED answers 1 exactly when `playerCount > 1` and the own id is below it; nothing changes but `locked`. -/
def Obligations.IsConnectedAnswer : Prop :=
  ∀ s : State, s.locked = false → s.enabled = true →
    exec .isConnected s = .next { s with
      locked := true,
      resp := if 1 < s.playerCount.toNat ∧ s.currentPlayerId.toNat < s.playerCount.toNat then 0x0001 else 0x0000 }

/-- R30 (with the spec's decision D34): the tag is Inactive exactly when the block is not activated, Connected exactly when
it is and `playerCount > 1` and the own id is below it, Searching exactly when it is and that fails. -/
def Obligations.ConnectedTagNeedsTwoPlayers : Prop :=
  ∀ s : State, (sessionTag s = .inactive ↔ s.enabled = false) ∧
    (sessionTag s = .connected ↔
      s.enabled = true ∧ 1 < s.playerCount.toNat ∧ s.currentPlayerId.toNat < s.playerCount.toNat) ∧
    (sessionTag s = .searching ↔
      s.enabled = true ∧ ¬(1 < s.playerCount.toNat ∧ s.currentPlayerId.toNat < s.playerCount.toNat))

/-- R239: HAS_MESSAGE answers whether the peer's queue holds a word; nothing changes but `locked`. -/
def Obligations.HasMessageAnswer : Prop :=
  ∀ (s : State) (p : SlotId), s.locked = false → s.enabled = true →
    exec (.hasMessage p) s = .next { s with
      locked := true, resp := if inbox s p = [] then 0x0000 else 0x0001 }

/-- R240: READ_MESSAGE answers the oldest word of the peer's queue and removes it, or answers `NO_DATA` and changes no queue;
the other queues and every storage word keep their values; with no sentinel queued the answer is 0x0000 exactly for an
empty queue and never 0xFFFF. -/
def Obligations.ReadMessageResult : Prop :=
  ∀ (s : State) (p : SlotId), s.locked = false → s.enabled = true → RingsWf s → ∃ inc,
    exec (.readMessage p) s = .next { s with
      locked := true, incoming := inc, resp := (queuePop (inbox s p)).1 } ∧
    ringAbs s.cfg.queueCapacity (slotGet inc p) = (queuePop (inbox s p)).2 ∧
    (slotGet inc p).mem = (slotGet s.incoming p).mem ∧
    (inbox s p = [] → inc = s.incoming) ∧
    (∀ j, j ≠ p → slotGet inc j = slotGet s.incoming j) ∧
    (QueuesReal s → ((queuePop (inbox s p)).1 = 0x0000 ↔ inbox s p = []) ∧ (queuePop (inbox s p)).1 ≠ 0xFFFF)

/-- A run of SENDs of real values, each retired, on an empty `outgoing` leaves the most recent `C` of them, in order. -/
def Obligations.SendsKeepMostRecent : Prop :=
  ∀ (vs : List Word) (s : State), StorageInv s → s.locked = false → s.enabled = true → outbox s = [] →
    NoSentinel vs →
    ∃ t, presentLabels (vs.flatMap fun v => [.req (encode (.send v)), .retire]) s = .next t ∧
      outbox t = vs.drop (vs.length - s.cfg.queueCapacity) ∧ t.locked = false

/-- Successive READ_MESSAGEs of a peer, each retired, answer its queued values oldest first, each once. -/
def Obligations.ReadsDrainInOrder : Prop :=
  ∀ (s : State) (p : SlotId) (k : Nat) (h : k < (inbox s p).length), StorageInv s → s.locked = false →
    s.enabled = true →
    ∃ t, presentLabels ((List.replicate k [.req (encode (.readMessage p)), .retire]).flatten ++
        [.req (encode (.readMessage p))]) s = .next t ∧
      t.resp = (inbox s p)[k] ∧ inbox t p = (inbox s p).drop (k + 1)

/-! ### The ring FIFO -/

/-- R126: every history of primitives on a canonical ring returns the words and ends in the sequence that the abstract FIFO
does, and the ring stays canonical. -/
def Obligations.RingRefinesQueue : Prop :=
  ∀ (C : Nat) (ops : List FifoOp) (q : Ring), ringWf C q = true →
    (runRing C ops q).1 = (runQueue C ops (ringAbs C q)).1 ∧
    ringAbs C (runRing C ops q).2 = (runQueue C ops (ringAbs C q)).2 ∧
    ringWf C (runRing C ops q).2 = true

/-- The real words a history pops from an empty ring are a subsequence of the real words it pushes, in push order. -/
def Obligations.PoppedWordsKeepPushOrder : Prop :=
  ∀ (C : Nat) (ops : List FifoOp) (q : Ring), ringWf C q = true → ringAbs C q = [] → NoSentinel (pushedWords ops) →
    ((runRing C ops q).1.filter isRealValue).Sublist (pushedWords ops)

/-- `m` pushes on an empty ring leave the last `min(m, C)` of the words, in order. -/
def Obligations.PushesKeepMostRecent : Prop :=
  ∀ (C : Nat) (vs : List Word) (q : Ring), ringWf C q = true → ringAbs C q = [] →
    ringAbs C (runRing C (vs.map .push) q).2 = vs.drop (vs.length - C) ∧
    (ringAbs C (runRing C (vs.map .push) q).2).length = min vs.length C

/-! ### Invariants and whole-machine rules -/

/-- Every step keeps the storage invariant. -/
def Obligations.StepKeepsStorage : Prop :=
  ∀ s t : State, StorageInv s → step s = .next t → StorageInv t

/-- Every step keeps the session invariant. -/
def Obligations.StepKeepsSession : Prop :=
  ∀ s t : State, StorageInv s → SessionInv s → step s = .next t → SessionInv t

/-- The state after reset has both invariants. -/
def Obligations.ResetHasInvariants : Prop :=
  StorageInv State.reset ∧ SessionInv State.reset

/-- R31: how each request moves the session tag. -/
def Obligations.RequestsMoveTag : Prop :=
  ∀ (i : Instr) (s : State), ∃ t, exec i s = .next t ∧
    sessionTag t =
      (if i = .activate then .searching
       else if i = .deactivate then .inactive
       else if guardPasses s = true ∧ i = .evTimer ∧ resetNeeded s = true then .searching
       else if guardPasses s = true ∧ i = .evSerial then
         (if connectedFields t.playerCount t.currentPlayerId = true then .connected else .searching)
       else sessionTag s) ∧
    sessionTag (retire s) = sessionTag s

/-- Only ACTIVATE leaves Inactive, and only to Searching. -/
def Obligations.OnlyActivateLeavesInactive : Prop :=
  ∀ s t : State, sessionTag s = .inactive → step s = .next t → sessionTag t ≠ .inactive →
    nextLabel s = .req 0x10000 ∧ sessionTag t = .searching

/-- R34: no step changes the configuration. -/
def Obligations.ConfigurationNeverChanges : Prop :=
  ∀ s t : State, step s = .next t → t.cfg = s.cfg

/-- Only an environment step changes a transport-owned field. -/
def Obligations.BlockNeverWritesTransportOwned : Prop :=
  ∀ s t : State, step s = .next t → (∀ u, nextLabel s ≠ .env u) → SameTransportOwned s t

/-- R322: while Inactive an event, or any other request but ACTIVATE and DEACTIVATE, changes neither the session nor a
register. -/
def Obligations.InactiveRequestsChangeNothing : Prop :=
  ∀ (s : State) (w : ReqWord), s.cfg.legal = true → s.enabled = false → nextLabel s = .req w → w ≠ 0x10000 →
    w ≠ 0x20000 → ∃ t, step s = .next t ∧ SameSession s t ∧ SameRegisters s t ∧ t.trace = s.trace

/-- R171: an environment step changes the named transport-owned fields and `CTRL.start`, and nothing else. -/
def Obligations.EnvironmentStepResult : Prop :=
  ∀ (s : State) (u : EnvUpdate) (rest : List StepLabel), s.cfg.legal = true → s.inputs = .env u :: rest → ∃ c,
    step s = .next { s with inputs := rest, absorbed := [], ctrl := c, rxslot := u.rxslot.getD s.rxslot } ∧
    ctrlSecondary c = u.secondary.getD (ctrlSecondary s.ctrl) ∧ ctrlReady c = u.ready.getD (ctrlReady s.ctrl) ∧
    ctrlId c = u.id.getD (ctrlId s.ctrl) ∧ ctrlError c = u.error.getD (ctrlError s.ctrl) ∧
    ctrlStart c = u.start.getD (ctrlStart s.ctrl) ∧ ctrlMulti c = ctrlMulti s.ctrl ∧ ctrlOther c = ctrlOther s.ctrl

/-- R172: an external-owner step, possible only while Inactive, writes owner-written fields and the timer port and cannot
touch the session; while `enabled = 1` it is refused (log 7). That `TMR_SEL` stays rests on R173 and R44 (it always equals
`TIMER_ID`) against R172's "may reprogram the timer port", and the mask on `CTRL.other` on the bits of that field (R38): the
model's deduction, log 20. That the response stays is the model's choice, log 12. -/
def Obligations.ExternalStepResult : Prop :=
  ∀ (s : State) (u : ExtUpdate) (rest : List StepLabel), s.cfg.legal = true → s.inputs = .ext u :: rest →
    (s.enabled = true → step s = .refused .ownershipBroken) ∧
    (s.enabled = false → ∃ t, step s = .next t ∧ SameSession s t ∧ SameTransportOwned s t ∧ t.cfg = s.cfg ∧
      t.tmrSel = s.tmrSel ∧ t.trace = s.trace ∧ t.resp = s.resp ∧
      t.txdata = u.txdata.getD s.txdata ∧ t.mode = u.mode.getD s.mode ∧
      ctrlStart t.ctrl = u.start.getD (ctrlStart s.ctrl) ∧ ctrlMulti t.ctrl = u.multi.getD (ctrlMulti s.ctrl) ∧
      ctrlOther t.ctrl = (match u.other with | some v => v &&& 0xDF03 | none => ctrlOther s.ctrl) ∧
      t.tmrReload = u.tmrReload.getD s.tmrReload ∧ t.tmrEn = u.tmrEn.getD s.tmrEn ∧
      t.tmrIrqEn = u.tmrIrqEn.getD s.tmrIrqEn)

/-- R319 (the spec's decision D40): a request always has a next state, and the ghost list of absorbed faults influences no
state: two states that differ in it only go to states that differ in it only. -/
def Obligations.GhostListInfluencesNothing : Prop :=
  ∀ (w : ReqWord) (s : State) (g : List AbsorbedFault), ∃ t t',
    performRequest w s = .next t ∧ performRequest w { s with absorbed := g } = .next t' ∧
    { t' with absorbed := t.absorbed } = t

/-! ### Bounded liveness and delivery -/

/-- A stalled transport: after `TICK_THRESHOLD + 1` frame-sync ticks without a serial event the next timer tick forces a
reset; after exactly `TICK_THRESHOLD` of them, with no ready+error condition standing, it forces none: the count, the four
inbound queues and the counters stay (a ready and idle primary then pops `outgoing`, R214). -/
def Obligations.StallForcesReset : Prop :=
  ∀ s : State, StorageInv s → s.locked = false → s.enabled = true → s.irqFlag = false → s.irqTimeout = 0 →
    (∃ t, presentLabels ((List.replicate (s.cfg.tickThreshold + 1) [.req 0x80000, .retire]).flatten ++
          [.req 0xA0000]) s = .next t ∧
      SessionAtReset t ∧ LinkConfigured t ∧ t.enabled = true ∧ t.locked = true ∧ ctrlStart t.ctrl = false ∧
      t.trace = s.trace ++ [.transportConfig s.cfg.modeMulti, .timerStart]) ∧
    (¬(ctrlReady s.ctrl = true ∧ ctrlError s.ctrl = true) →
      ∃ t, presentLabels ((List.replicate s.cfg.tickThreshold [.req 0x80000, .retire]).flatten ++
          [.req 0xA0000]) s = .next t ∧
        t.irqTimeout.toNat = s.cfg.tickThreshold ∧ t.incoming = s.incoming ∧ t.timeouts = s.timeouts)

/-- A tracked slot that reads `DISCONNECTED` at every serial-complete tick keeps its queue and counts its misses below
`REMOTE_TIMEOUT`, and at exactly the `REMOTE_TIMEOUT`-th is offline with its queue emptied. -/
def Obligations.EvictionAfterRemoteTimeout : Prop :=
  ∀ (s : State) (i : SlotId), StorageInv s → s.locked = false → s.enabled = true →
    slotGet s.timeouts i = .live 0 → slotGet s.rxslot i = 0xFFFF →
    (∀ n, n < s.cfg.remoteTimeout →
      ∃ t, presentLabels (List.replicate n [.req 0x90000, .retire]).flatten s = .next t ∧
        slotGet t.timeouts i = .live n ∧ slotGet t.incoming i = slotGet s.incoming i) ∧
    (∃ t, presentLabels (List.replicate s.cfg.remoteTimeout [.req 0x90000, .retire]).flatten s = .next t ∧
      slotGet t.timeouts i = .offline ∧ inbox t i = [])

/-- The reference exchange fills every device's slots with the words of all, clears its start bit, and keeps its id. -/
def Obligations.ExchangeDeliversWords : Prop :=
  ∀ ds ds' : List Device, exchange ds = some ds' →
    ds'.map Device.id = ds.map Device.id ∧
    ∀ d ∈ ds', d.state.rxslot = exchangeWords ds ∧ ctrlStart d.state.ctrl = false ∧
      ctrlId d.state.ctrl = d.id ∧ ctrlSecondary d.state.ctrl = (d.id != 0)

/-- Delivery on the reference transport: what a primary has queued, a connected secondary reads from slot 0 in order, one
value per exchange, and then `NO_DATA`. -/
def Obligations.QueuedValuesAreDeliveredInOrder : Prop :=
  ∀ (p q : Device) (vs : List Word), p.id = 0 → q.id ≠ 0 → StorageInv p.state → StorageInv q.state →
    guardPasses p.state = true → guardPasses q.state = true →
    ctrlSecondary p.state.ctrl = false → ctrlReady p.state.ctrl = true → ctrlError p.state.ctrl = false →
    ctrlStart p.state.ctrl = false → stallReported p.state = false →
    q.state.currentPlayerId = q.id → inbox q.state 0 = [] → outbox p.state = vs →
    deliveryRounds q.id (vs.length + 1) [p, q] = some (vs ++ [0x0000])
end

