-- ==== Sys2Proof/Laws/Fields.lean ====
section
/-! SUPPORT. Reading a register field after a field was written: the written field reads as written, the others as
before (spec/20_memory.md R66). -/

namespace Sys2Proof.Machine

/-- A bit of a register after a field write. -/
theorem writeField_getLsbD (m v w : Word) (i : Nat) :
    (writeField m v w).getLsbD i = if m.getLsbD i then v.getLsbD i else w.getLsbD i := by
  by_cases hi : i < 16
  · simp only [writeField, BitVec.getLsbD_or, BitVec.getLsbD_and, BitVec.getLsbD_not]
    cases m.getLsbD i <;> simp [hi]
  · simp [BitVec.getLsbD_of_ge _ _ (Nat.le_of_not_lt hi)]

theorem writeField_getElem (m v w : Word) (i : Nat) (h : i < 16) :
    (writeField m v w)[i] = if m[i] then v[i] else w[i] := by
  simpa [BitVec.getLsbD_eq_getElem h] using writeField_getLsbD m v w i

/-- A field outside the written one is undisturbed. -/
theorem writeField_and_of_disjoint (m v w k : Word) (h : m &&& k = 0) : writeField m v w &&& k = w &&& k := by
  apply BitVec.eq_of_getLsbD_eq
  intro i _
  have hk : (m &&& k).getLsbD i = false := by rw [h]; simp
  rw [BitVec.getLsbD_and] at hk
  rw [BitVec.getLsbD_and, BitVec.getLsbD_and, writeField_getLsbD]
  split <;> simp_all

/-- The written field reads as written. -/
theorem writeField_and_self (m v w : Word) : writeField m v w &&& m = v &&& m := by
  apply BitVec.eq_of_getLsbD_eq
  intro i _
  rw [BitVec.getLsbD_and, BitVec.getLsbD_and, writeField_getLsbD]
  split <;> simp_all

@[simp] theorem ctrlSecondary_setCtrlSecondary (b : Bool) (c : Word) : ctrlSecondary (setCtrlSecondary b c) = b := by
  cases b <;> exact (writeField_getLsbD _ _ _ _).trans rfl
@[simp] theorem ctrlSecondary_setCtrlReady (b : Bool) (c : Word) : ctrlSecondary (setCtrlReady b c) = ctrlSecondary c :=
  (writeField_getLsbD _ _ _ _).trans rfl
@[simp] theorem ctrlSecondary_setCtrlError (b : Bool) (c : Word) : ctrlSecondary (setCtrlError b c) = ctrlSecondary c :=
  (writeField_getLsbD _ _ _ _).trans rfl
@[simp] theorem ctrlSecondary_setCtrlStart (b : Bool) (c : Word) : ctrlSecondary (setCtrlStart b c) = ctrlSecondary c :=
  (writeField_getLsbD _ _ _ _).trans rfl
@[simp] theorem ctrlSecondary_setCtrlMulti (b : Bool) (c : Word) : ctrlSecondary (setCtrlMulti b c) = ctrlSecondary c :=
  (writeField_getLsbD _ _ _ _).trans rfl
@[simp] theorem ctrlSecondary_setCtrlOther (v c : Word) : ctrlSecondary (setCtrlOther v c) = ctrlSecondary c :=
  (writeField_getLsbD _ _ _ _).trans rfl
@[simp] theorem ctrlSecondary_setCtrlId (i : SlotId) (c : Word) : ctrlSecondary (setCtrlId i c) = ctrlSecondary c :=
  (writeField_getLsbD _ _ _ _).trans rfl
@[simp] theorem ctrlReady_setCtrlSecondary (b : Bool) (c : Word) : ctrlReady (setCtrlSecondary b c) = ctrlReady c :=
  (writeField_getLsbD _ _ _ _).trans rfl
@[simp] theorem ctrlReady_setCtrlReady (b : Bool) (c : Word) : ctrlReady (setCtrlReady b c) = b := by
  cases b <;> exact (writeField_getLsbD _ _ _ _).trans rfl
@[simp] theorem ctrlReady_setCtrlError (b : Bool) (c : Word) : ctrlReady (setCtrlError b c) = ctrlReady c :=
  (writeField_getLsbD _ _ _ _).trans rfl
@[simp] theorem ctrlReady_setCtrlStart (b : Bool) (c : Word) : ctrlReady (setCtrlStart b c) = ctrlReady c :=
  (writeField_getLsbD _ _ _ _).trans rfl
@[simp] theorem ctrlReady_setCtrlMulti (b : Bool) (c : Word) : ctrlReady (setCtrlMulti b c) = ctrlReady c :=
  (writeField_getLsbD _ _ _ _).trans rfl
@[simp] theorem ctrlReady_setCtrlOther (v c : Word) : ctrlReady (setCtrlOther v c) = ctrlReady c :=
  (writeField_getLsbD _ _ _ _).trans rfl
@[simp] theorem ctrlReady_setCtrlId (i : SlotId) (c : Word) : ctrlReady (setCtrlId i c) = ctrlReady c :=
  (writeField_getLsbD _ _ _ _).trans rfl
@[simp] theorem ctrlError_setCtrlSecondary (b : Bool) (c : Word) : ctrlError (setCtrlSecondary b c) = ctrlError c :=
  (writeField_getLsbD _ _ _ _).trans rfl
@[simp] theorem ctrlError_setCtrlReady (b : Bool) (c : Word) : ctrlError (setCtrlReady b c) = ctrlError c :=
  (writeField_getLsbD _ _ _ _).trans rfl
@[simp] theorem ctrlError_setCtrlError (b : Bool) (c : Word) : ctrlError (setCtrlError b c) = b := by
  cases b <;> exact (writeField_getLsbD _ _ _ _).trans rfl
@[simp] theorem ctrlError_setCtrlStart (b : Bool) (c : Word) : ctrlError (setCtrlStart b c) = ctrlError c :=
  (writeField_getLsbD _ _ _ _).trans rfl
@[simp] theorem ctrlError_setCtrlMulti (b : Bool) (c : Word) : ctrlError (setCtrlMulti b c) = ctrlError c :=
  (writeField_getLsbD _ _ _ _).trans rfl
@[simp] theorem ctrlError_setCtrlOther (v c : Word) : ctrlError (setCtrlOther v c) = ctrlError c :=
  (writeField_getLsbD _ _ _ _).trans rfl
@[simp] theorem ctrlError_setCtrlId (i : SlotId) (c : Word) : ctrlError (setCtrlId i c) = ctrlError c :=
  (writeField_getLsbD _ _ _ _).trans rfl
@[simp] theorem ctrlStart_setCtrlSecondary (b : Bool) (c : Word) : ctrlStart (setCtrlSecondary b c) = ctrlStart c :=
  (writeField_getLsbD _ _ _ _).trans rfl
@[simp] theorem ctrlStart_setCtrlReady (b : Bool) (c : Word) : ctrlStart (setCtrlReady b c) = ctrlStart c :=
  (writeField_getLsbD _ _ _ _).trans rfl
@[simp] theorem ctrlStart_setCtrlError (b : Bool) (c : Word) : ctrlStart (setCtrlError b c) = ctrlStart c :=
  (writeField_getLsbD _ _ _ _).trans rfl
@[simp] theorem ctrlStart_setCtrlStart (b : Bool) (c : Word) : ctrlStart (setCtrlStart b c) = b := by
  cases b <;> exact (writeField_getLsbD _ _ _ _).trans rfl
@[simp] theorem ctrlStart_setCtrlMulti (b : Bool) (c : Word) : ctrlStart (setCtrlMulti b c) = ctrlStart c :=
  (writeField_getLsbD _ _ _ _).trans rfl
@[simp] theorem ctrlStart_setCtrlOther (v c : Word) : ctrlStart (setCtrlOther v c) = ctrlStart c :=
  (writeField_getLsbD _ _ _ _).trans rfl
@[simp] theorem ctrlStart_setCtrlId (i : SlotId) (c : Word) : ctrlStart (setCtrlId i c) = ctrlStart c :=
  (writeField_getLsbD _ _ _ _).trans rfl
@[simp] theorem ctrlMulti_setCtrlSecondary (b : Bool) (c : Word) : ctrlMulti (setCtrlSecondary b c) = ctrlMulti c :=
  (writeField_getLsbD _ _ _ _).trans rfl
@[simp] theorem ctrlMulti_setCtrlReady (b : Bool) (c : Word) : ctrlMulti (setCtrlReady b c) = ctrlMulti c :=
  (writeField_getLsbD _ _ _ _).trans rfl
@[simp] theorem ctrlMulti_setCtrlError (b : Bool) (c : Word) : ctrlMulti (setCtrlError b c) = ctrlMulti c :=
  (writeField_getLsbD _ _ _ _).trans rfl
@[simp] theorem ctrlMulti_setCtrlStart (b : Bool) (c : Word) : ctrlMulti (setCtrlStart b c) = ctrlMulti c :=
  (writeField_getLsbD _ _ _ _).trans rfl
@[simp] theorem ctrlMulti_setCtrlMulti (b : Bool) (c : Word) : ctrlMulti (setCtrlMulti b c) = b := by
  cases b <;> exact (writeField_getLsbD _ _ _ _).trans rfl
@[simp] theorem ctrlMulti_setCtrlOther (v c : Word) : ctrlMulti (setCtrlOther v c) = ctrlMulti c :=
  (writeField_getLsbD _ _ _ _).trans rfl
@[simp] theorem ctrlMulti_setCtrlId (i : SlotId) (c : Word) : ctrlMulti (setCtrlId i c) = ctrlMulti c :=
  (writeField_getLsbD _ _ _ _).trans rfl

/-- The id field is the two bits 5:4. -/
theorem ctrlId_congr {c d : Word} (h4 : c.getLsbD 4 = d.getLsbD 4) (h5 : c.getLsbD 5 = d.getLsbD 5) :
    ctrlId c = ctrlId d := by
  apply BitVec.eq_of_getLsbD_eq
  intro i hi
  have : i = 0 ∨ i = 1 := by omega
  rcases this with rfl | rfl
  · simpa [ctrlId, BitVec.getLsbD_extractLsb'] using h4
  · simpa [ctrlId, BitVec.getLsbD_extractLsb'] using h5

@[simp] theorem ctrlId_setCtrlSecondary (b : Bool) (c : Word) : ctrlId (setCtrlSecondary b c) = ctrlId c :=
  ctrlId_congr ((writeField_getLsbD _ _ _ _).trans rfl) ((writeField_getLsbD _ _ _ _).trans rfl)
@[simp] theorem ctrlId_setCtrlReady (b : Bool) (c : Word) : ctrlId (setCtrlReady b c) = ctrlId c :=
  ctrlId_congr ((writeField_getLsbD _ _ _ _).trans rfl) ((writeField_getLsbD _ _ _ _).trans rfl)
@[simp] theorem ctrlId_setCtrlError (b : Bool) (c : Word) : ctrlId (setCtrlError b c) = ctrlId c :=
  ctrlId_congr ((writeField_getLsbD _ _ _ _).trans rfl) ((writeField_getLsbD _ _ _ _).trans rfl)
@[simp] theorem ctrlId_setCtrlStart (b : Bool) (c : Word) : ctrlId (setCtrlStart b c) = ctrlId c :=
  ctrlId_congr ((writeField_getLsbD _ _ _ _).trans rfl) ((writeField_getLsbD _ _ _ _).trans rfl)
@[simp] theorem ctrlId_setCtrlMulti (b : Bool) (c : Word) : ctrlId (setCtrlMulti b c) = ctrlId c :=
  ctrlId_congr ((writeField_getLsbD _ _ _ _).trans rfl) ((writeField_getLsbD _ _ _ _).trans rfl)
@[simp] theorem ctrlId_setCtrlOther (v c : Word) : ctrlId (setCtrlOther v c) = ctrlId c :=
  ctrlId_congr ((writeField_getLsbD _ _ _ _).trans rfl) ((writeField_getLsbD _ _ _ _).trans rfl)
@[simp] theorem ctrlId_setCtrlId (i : SlotId) (c : Word) : ctrlId (setCtrlId i c) = i := by
  apply BitVec.eq_of_getLsbD_eq
  intro k hk
  have : k = 0 ∨ k = 1 := by omega
  rcases this with rfl | rfl <;>
    simp [ctrlId, setCtrlId, writeField_getElem]

@[simp] theorem ctrlOther_setCtrlSecondary (b : Bool) (c : Word) : ctrlOther (setCtrlSecondary b c) = ctrlOther c :=
  writeField_and_of_disjoint _ _ _ _ (by decide)
@[simp] theorem ctrlOther_setCtrlReady (b : Bool) (c : Word) : ctrlOther (setCtrlReady b c) = ctrlOther c :=
  writeField_and_of_disjoint _ _ _ _ (by decide)
@[simp] theorem ctrlOther_setCtrlError (b : Bool) (c : Word) : ctrlOther (setCtrlError b c) = ctrlOther c :=
  writeField_and_of_disjoint _ _ _ _ (by decide)
@[simp] theorem ctrlOther_setCtrlStart (b : Bool) (c : Word) : ctrlOther (setCtrlStart b c) = ctrlOther c :=
  writeField_and_of_disjoint _ _ _ _ (by decide)
@[simp] theorem ctrlOther_setCtrlMulti (b : Bool) (c : Word) : ctrlOther (setCtrlMulti b c) = ctrlOther c :=
  writeField_and_of_disjoint _ _ _ _ (by decide)
@[simp] theorem ctrlOther_setCtrlId (i : SlotId) (c : Word) : ctrlOther (setCtrlId i c) = ctrlOther c :=
  writeField_and_of_disjoint _ _ _ _ (by decide)
@[simp] theorem ctrlOther_setCtrlOther (v c : Word) : ctrlOther (setCtrlOther v c) = v &&& ctrlOtherMask :=
  writeField_and_self _ _ _

/-- `MODE.sel` reads as written. -/
@[simp] theorem modeSel_setModeSel (sel : BitVec 2) (m : Word) : modeSel (setModeSel sel m) = sel := by
  apply BitVec.eq_of_getLsbD_eq
  intro k hk
  have : k = 0 ∨ k = 1 := by omega
  rcases this with rfl | rfl <;>
    simp [modeSel, setModeSel, writeField_getElem]

/-- `MODE[13:0]` is undisturbed by a write of `MODE.sel` (spec/10_state.md R41). -/
theorem setModeSel_low (sel : BitVec 2) (m : Word) :
    setModeSel sel m &&& 0x3FFF = m &&& 0x3FFF := writeField_and_of_disjoint _ _ _ _ (by decide)

/-- A control register is determined by its fields (spec/10_state.md R38). -/
theorem ctrl_ext {c d : Word} (ho : ctrlOther c = ctrlOther d) (hm : ctrlMulti c = ctrlMulti d)
    (hs : ctrlStart c = ctrlStart d) (he : ctrlError c = ctrlError d) (hi : ctrlId c = ctrlId d)
    (hr : ctrlReady c = ctrlReady d) (hp : ctrlSecondary c = ctrlSecondary d) : c = d := by
  have o : ∀ k, ctrlOtherMask.getLsbD k = true → c.getLsbD k = d.getLsbD k := by
    intro k hk
    have := congrArg (fun w : Word => w.getLsbD k) ho
    simpa [ctrlOther, BitVec.getLsbD_and, hk] using this
  have i4 : c.getLsbD 4 = d.getLsbD 4 := by
    have := congrArg (fun w : SlotId => w.getLsbD 0) hi
    simpa [ctrlId, BitVec.getLsbD_extractLsb'] using this
  have i5 : c.getLsbD 5 = d.getLsbD 5 := by
    have := congrArg (fun w : SlotId => w.getLsbD 1) hi
    simpa [ctrlId, BitVec.getLsbD_extractLsb'] using this
  apply BitVec.eq_of_getLsbD_eq
  intro k hk
  by_cases hmask : ctrlOtherMask.getLsbD k = true
  · exact o k hmask
  · have hcases : k = 2 ∨ k = 3 ∨ k = 4 ∨ k = 5 ∨ k = 6 ∨ k = 7 ∨ k = 13 := by
      revert hmask; revert hk; revert k; decide
    rcases hcases with rfl | rfl | rfl | rfl | rfl | rfl | rfl
    exacts [hp, hr, i4, i5, he, hs, hm]

end Sys2Proof.Machine
end

