-- ==== Sys2Proof/Laws/Fifo.lean ====
section
/-! SUPPORT. The laws of the ring FIFO: every primitive keeps the canonical form of spec/40_fifo.md R126, and what each
does to the held sequence. -/

namespace Sys2Proof.Machine

variable {C : Nat} {q : Ring}

theorem ringWf_iff : ringWf C q = true ↔ q.mem.length = C ∧ q.head < C ∧ q.count ≤ C := by
  simp [ringWf, and_assoc]

theorem powerOn_wf (h : 0 < C) : ringWf C (Ring.powerOn C) = true := by
  simp [ringWf, Ring.powerOn, h]

theorem fifoPush_wf (h : ringWf C q = true) (v : Word) : ringWf C (fifoPush C q v) = true := by
  rw [ringWf_iff] at *
  obtain ⟨hm, hh, hc⟩ := h
  unfold fifoPush
  split
  · exact ⟨by simpa using hm, Nat.mod_lt _ (by omega), hc⟩
  · rename_i hf
    simp only [ringFull, decide_eq_true_eq, not_le] at hf
    exact ⟨by simpa using hm, hh, by simpa using hf⟩

theorem fifoPop_wf (h : ringWf C q = true) : ringWf C (fifoPop C q).2 = true := by
  rw [ringWf_iff] at *
  obtain ⟨hm, hh, hc⟩ := h
  unfold fifoPop
  split
  · exact ⟨hm, hh, hc⟩
  · exact ⟨hm, Nat.mod_lt _ (by omega), Nat.le_trans (Nat.sub_le _ _) hc⟩

theorem fifoClear_wf (h : ringWf C q = true) : ringWf C (fifoClear q) = true := by
  rw [ringWf_iff] at *
  exact ⟨h.1, by simp only [fifoClear]; omega, by simp [fifoClear]⟩

@[simp] theorem ringAbs_length : (ringAbs C q).length = q.count := by simp [ringAbs]

@[simp] theorem ringAbs_clear : ringAbs C (fifoClear q) = [] := by simp [ringAbs, fifoClear]

@[simp] theorem ringAbs_powerOn : ringAbs C (Ring.powerOn C) = [] := by simp [ringAbs, Ring.powerOn]

theorem ringAbs_getElem {k : Nat} (h : k < (ringAbs C q).length) :
    (ringAbs C q)[k] = q.mem.getD (ringIndex C q k) 0 := by simp [ringAbs]

/-- An empty FIFO is one that holds no word (R125). -/
theorem fifoEmpty_iff : fifoEmpty q = true ↔ ringAbs C q = [] := by
  rw [← List.length_eq_zero_iff]; simp [fifoEmpty]

/-- The storage outside the position pushed to is untouched. -/
theorem fifoPush_mem_other (v : Word) (k : Nat) (h : k ≠ pushIndex C q) :
    (fifoPush C q v).mem.getD k 0 = q.mem.getD k 0 := by
  have : (fifoPush C q v).mem = q.mem.set (pushIndex C q) v := by unfold fifoPush; split <;> rfl
  rw [this, List.getD_eq_getElem?_getD, List.getElem?_set_ne h.symm, ← List.getD_eq_getElem?_getD]

@[simp] theorem fifoPop_mem : (fifoPop C q).2.mem = q.mem := by unfold fifoPop; split <;> rfl

@[simp] theorem fifoClear_mem : (fifoClear q).mem = q.mem := rfl

/-- Two positions of the ring below `C` steps apart are different. -/
theorem ringIndex_ne {h j k : Nat} (hjk : j < k) (hk : k < j + C) :
    (h + j) % C ≠ (h + k) % C := by
  intro he
  have hd : C ∣ (h + k) - (h + j) := (Nat.modEq_iff_dvd' (by omega)).mp he
  have : (h + k) - (h + j) = k - j := by omega
  rw [this] at hd
  exact absurd (Nat.le_of_dvd (by omega) hd) (by omega)

/-- `fifo_push` when not full appends (R122). -/
theorem ringAbs_push_room (h : ringWf C q = true) (hc : q.count < C) (v : Word) :
    ringAbs C (fifoPush C q v) = ringAbs C q ++ [v] := by
  obtain ⟨hm, hh, -⟩ := ringWf_iff.mp h
  have hf : ringFull C q = false := by simp [ringFull]; omega
  apply List.ext_getElem
  · simp [fifoPush, hf]
  · intro k h1 h2
    rw [ringAbs_getElem]
    simp only [fifoPush, hf, pushIndex, ringIndex, Bool.false_eq_true, if_false, ringAbs_length] at h1 ⊢
    rw [List.getD_eq_getElem?_getD]
    by_cases hk : k = q.count
    · subst hk
      rw [List.getElem?_set_self (by rw [hm]; exact Nat.mod_lt _ (by omega))]
      simp
    · have hlt : k < q.count := by omega
      rw [List.getElem?_set_ne (ringIndex_ne hlt (by omega)).symm,
        List.getElem_append_left (by simpa using hlt), ringAbs_getElem, List.getD_eq_getElem?_getD]
      rfl

/-- `fifo_push` when full drops the oldest and appends (R123). -/
theorem ringAbs_push_full (h : ringWf C q = true) (hc : q.count = C) (v : Word) :
    ringAbs C (fifoPush C q v) = (ringAbs C q).tail ++ [v] := by
  obtain ⟨hm, hh, -⟩ := ringWf_iff.mp h
  have hC : 0 < C := by omega
  have hf : ringFull C q = true := by simp [ringFull, hc]
  have hw : ((q.head + 1) % C + C - 1) % C = (q.head + 1 + (C - 1)) % C := by
    have : (q.head + 1) % C + C - 1 = (q.head + 1) % C + (C - 1) := by omega
    rw [this, Nat.mod_add_mod]
  apply List.ext_getElem
  · simp [fifoPush, hf, hc]; omega
  · intro k h1 h2
    rw [ringAbs_getElem]
    simp only [fifoPush, hf, pushIndex, ringIndex, if_true, ringAbs_length, hw, Nat.mod_add_mod] at h1 ⊢
    rw [List.getD_eq_getElem?_getD]
    by_cases hk : k = C - 1
    · subst hk
      rw [List.getElem?_set_self (by rw [hm]; exact Nat.mod_lt _ hC),
        List.getElem_append_right (by simp [hc])]
      simp
    · have hlt : k < C - 1 := by omega
      rw [List.getElem?_set_ne (ringIndex_ne hlt (by omega)).symm,
        List.getElem_append_left (by simp [hc]; omega), List.getElem_tail, ringAbs_getElem,
        List.getD_eq_getElem?_getD]
      simp only [ringIndex]
      congr 3
      omega

/-- What `fifo_push` does to the held sequence (R122, R123). -/
theorem ringAbs_push (h : ringWf C q = true) (v : Word) :
    ringAbs C (fifoPush C q v) =
      if (ringAbs C q).length < C then ringAbs C q ++ [v] else (ringAbs C q).tail ++ [v] := by
  have hc := (ringWf_iff.mp h).2.2
  rw [ringAbs_length]
  split
  · exact ringAbs_push_room h ‹_› v
  · exact ringAbs_push_full h (by omega) v

/-- `fifo_pop` from an empty FIFO (R124). -/
theorem fifoPop_nil (h : ringAbs C q = []) : fifoPop C q = (noDataWord, q) := by
  simp [fifoPop, fifoEmpty_iff.mpr h]

/-- `fifo_pop` from a FIFO that holds words (R124). -/
theorem fifoPop_cons (h : ringWf C q = true) {x : Word} {xs : List Word} (hq : ringAbs C q = x :: xs) :
    (fifoPop C q).1 = x ∧ ringAbs C (fifoPop C q).2 = xs := by
  obtain ⟨hm, hh, hcC⟩ := ringWf_iff.mp h
  have hlen : q.count = xs.length + 1 := by rw [← ringAbs_length (C := C) (q := q), hq]; rfl
  have hne : fifoEmpty q = false := by simp [fifoEmpty, hlen]
  have get : ∀ k (hk : k < q.count), (x :: xs)[k]'(by simp; omega) = q.mem.getD (ringIndex C q k) 0 := by
    intro k hk
    rw [← ringAbs_getElem (by simpa using hk)]
    simp [hq]
  constructor
  · have := get 0 (by omega)
    simp only [List.getElem_cons_zero, ringIndex, Nat.add_zero, Nat.mod_eq_of_lt hh] at this
    simp [fifoPop, hne, this]
  · apply List.ext_getElem
    · simp [fifoPop, hne, hlen]
    · intro k h1 h2
      rw [ringAbs_getElem]
      have := get (k + 1) (by omega)
      simp only [List.getElem_cons_succ] at this
      rw [this]
      simp only [fifoPop, hne, ringIndex, Bool.false_eq_true, if_false, Nat.mod_add_mod]
      congr 2
      omega

end Sys2Proof.Machine
end

