-- ==== Sys2Proof/Laws/FifoProperties.lean ====
section
/-! SUPPORT. The properties spec/40_fifo.md R128 asks of the FIFO primitives (`FifoProperties`): (1), (4), (5) and (6)
proved; (2) and (3) are statements for the provers. -/

namespace Sys2Proof.Machine

variable {C : Nat} {q : Ring}

/-- Every history of primitives keeps the canonical form. -/
theorem runRing_wf (ops : List FifoOp) (h : ringWf C q = true) : ringWf C (runRing C ops q).2 = true := by
  induction ops generalizing q with
  | nil => exact h
  | cons op ops ih =>
    cases op with
    | push v => exact ih (fifoPush_wf h v)
    | pop => exact ih (fifoPop_wf h)
    | clear => exact ih (fifoClear_wf h)

/-- (4) of R128. -/
theorem fifoPop_length :
    (fifoEmpty q = false → fifoLen (fifoPop C q).2 + 1 = fifoLen q) ∧
      (fifoEmpty q = true → fifoEmpty (fifoPop C q).2 = true) := by
  refine ⟨fun h => ?_, fun h => by simp [fifoPop, h]⟩
  have hc : q.count ≠ 0 := by simpa [fifoEmpty] using h
  simp only [fifoPop, h, fifoLen, Bool.false_eq_true, if_false]
  omega

/-- (5) of R128. -/
theorem fifoPush_full_length (v : Word) (h : fifoLen q = C) : fifoLen (fifoPush C q v) = C := by
  have hc : q.count = C := h
  simp [fifoPush, fifoLen, ringFull, hc]

/-- (6) of R128. -/
theorem fifo_no_sentinel (h : ringWf C q = true) (hq : NoSentinel (ringAbs C q)) :
    (∀ v, isRealValue v → NoSentinel (ringAbs C (fifoPush C q v))) ∧
      NoSentinel (ringAbs C (fifoPop C q).2) ∧ NoSentinel (ringAbs C (fifoClear q)) ∧
      (isRealValue (fifoPop C q).1 ∨ fifoEmpty q = true ∧ (fifoPop C q).1 = noDataWord) := by
  refine ⟨fun v hv w hw => ?_, ?_⟩
  · rw [ringAbs_push h] at hw
    split at hw <;> rcases List.mem_append.mp hw with hw | hw
    · exact hq w hw
    · rwa [List.mem_singleton.mp hw]
    · exact hq w (List.mem_of_mem_tail hw)
    · rwa [List.mem_singleton.mp hw]
  · cases hl : ringAbs C q with
    | nil =>
      rw [fifoPop_nil hl]
      exact ⟨hq, by simp [NoSentinel], .inr ⟨fifoEmpty_iff.mpr hl, rfl⟩⟩
    | cons x xs =>
      obtain ⟨hx, hxs⟩ := fifoPop_cons h hl
      rw [hl] at hq
      exact ⟨hxs ▸ fun w hw => hq w (.tail _ hw), by simp [NoSentinel], .inl (hx ▸ hq x (.head _))⟩

/-- R128 whole, from its properties (2) and (3). -/
theorem fifoProperties_of
    (order : ∀ (ops : List FifoOp) (q : Ring), ringWf C q = true → ringAbs C q = [] → NoSentinel (pushedWords ops) →
      ((runRing C ops q).1.filter isRealValue).Sublist (pushedWords ops))
    (mostRecent : ∀ (vs : List Word) (q : Ring), ringWf C q = true → ringAbs C q = [] →
      ringAbs C (runRing C (vs.map .push) q).2 = vs.drop (vs.length - C) ∧
      (ringAbs C (runRing C (vs.map .push) q).2).length = min vs.length C) :
    FifoProperties C where
  length_le ops _ h := ⟨runRing_wf ops h, (ringWf_iff.mp (runRing_wf ops h)).2.2⟩
  order := order
  mostRecent := mostRecent
  popLength _ := fifoPop_length
  pushFull _ v h := fifoPush_full_length v h
  noSentinel _ h hq := fifo_no_sentinel h hq

end Sys2Proof.Machine
end

