-- ==== Sys2Proof/Laws/PerInstr.lean ====
section
/-! SUPPORT. One lemma per instruction: its word selects its row of the opcode map (spec/30_encoding.md R92) and no
other. -/

namespace Sys2Proof.Laws

/-- The word of `i` selects a row of the opcode map exactly when the row carries `i`'s mnemonic. -/
def EncodingMatchesTable.Statement (i : Instr) : Prop :=
  ∀ r ∈ opcodeTable, r.selects (encode i) = true ↔ r.mnemonic = i.mnemonic

/-- The opcode of a word put together from an opcode and an argument. -/
theorem opcodeOf_word (o : BitVec 4) (a : BitVec 16) :
    opcodeOf (o.setWidth 20 <<< 16 ||| a.setWidth 20) = o := by
  apply BitVec.eq_of_getLsbD_eq
  intro k hk
  have h20 : 16 + k < 20 := by omega
  have ha : a.getLsbD (16 + k) = false := BitVec.getLsbD_of_ge a _ (by omega)
  simp only [opcodeOf, BitVec.getLsbD_extractLsb', BitVec.getLsbD_or, BitVec.getLsbD_shiftLeft, BitVec.getLsbD_setWidth,
    ha, Nat.add_sub_cancel_left]
  simp [hk, h20, show k < 20 by omega]

/-- The argument of a word put together from an opcode and an argument. -/
theorem argumentOf_word (o : BitVec 4) (a : BitVec 16) :
    argumentOf (o.setWidth 20 <<< 16 ||| a.setWidth 20) = a := by
  apply BitVec.eq_of_getLsbD_eq
  intro k hk
  simp only [argumentOf, BitVec.getLsbD_extractLsb', BitVec.getLsbD_or, BitVec.getLsbD_shiftLeft, BitVec.getLsbD_setWidth,
    Nat.zero_add]
  simp [hk, show k < 20 by omega]

theorem opcodeOf_and (w m : ReqWord) : opcodeOf (w &&& m) = opcodeOf w &&& opcodeOf m := by
  apply BitVec.eq_of_getLsbD_eq
  intro k hk
  simp [opcodeOf, hk]

/-- A row whose masked opcode differs from the word's is not selected. -/
theorem not_selects {r : OpcodeRow} {w : ReqWord} (h : opcodeOf w &&& opcodeOf r.mask ≠ opcodeOf r.pattern) :
    r.selects w = false := by
  simp only [OpcodeRow.selects, decide_eq_false_iff_not]
  intro he
  exact h (by rw [← opcodeOf_and, he])

theorem EncodingMatchesTable.nop : EncodingMatchesTable.Statement .nop := by
  unfold Statement; decide

theorem EncodingMatchesTable.activate : EncodingMatchesTable.Statement .activate := by
  unfold Statement; decide

theorem EncodingMatchesTable.deactivate : EncodingMatchesTable.Statement .deactivate := by
  unfold Statement; decide

theorem EncodingMatchesTable.send (value : Word) : EncodingMatchesTable.Statement (.send value) := by
  have ho : opcodeOf (encode (.send value)) = 0x3#4 := opcodeOf_word _ _
  have other : ∀ r : OpcodeRow, 0x3#4 &&& opcodeOf r.mask ≠ opcodeOf r.pattern →
      r.selects (encode (.send value)) = false := fun r h => not_selects (by rw [ho]; exact h)
  have own : encode (.send value) &&& 0xF0000 = 0x30000 := by
    apply BitVec.eq_of_getLsbD_eq
    intro k hk
    by_cases h : k < 16
    · have hm : (0xF0000 : ReqWord).getLsbD k = false := by interval_cases k <;> rfl
      have hp : (0x30000 : ReqWord).getLsbD k = false := by interval_cases k <;> rfl
      rw [BitVec.getLsbD_and, hm, hp, Bool.and_false]
    · have hb := congrArg (fun o => BitVec.getLsbD o (k - 16)) ho
      simp only [opcodeOf, BitVec.getLsbD_extractLsb', show k - 16 < 4 by omega, decide_true, Bool.true_and,
        show 16 + (k - 16) = k by omega] at hb
      rw [BitVec.getLsbD_and, hb]
      interval_cases k <;> rfl
  simp only [Statement, opcodeTable, List.forall_mem_cons, List.not_mem_nil, false_implies, implies_true, and_true]
  refine ⟨?_, ?_, ?_, ?_, ?_, ?_, ?_, ?_, ?_, ?_⟩
  case refine_4 => exact iff_of_true (decide_eq_true own) rfl
  all_goals rw [other _ (by decide)]; simp [Instr.mnemonic]

theorem EncodingMatchesTable.isConnected : EncodingMatchesTable.Statement .isConnected := by
  unfold Statement; decide

theorem EncodingMatchesTable.hasMessage (peer : SlotId) : EncodingMatchesTable.Statement (.hasMessage peer) := by
  unfold Statement; revert peer; decide

theorem EncodingMatchesTable.readMessage (peer : SlotId) : EncodingMatchesTable.Statement (.readMessage peer) := by
  unfold Statement; revert peer; decide

theorem EncodingMatchesTable.evFrameSync : EncodingMatchesTable.Statement .evFrameSync := by
  unfold Statement; decide

theorem EncodingMatchesTable.evSerial : EncodingMatchesTable.Statement .evSerial := by
  unfold Statement; decide

theorem EncodingMatchesTable.evTimer : EncodingMatchesTable.Statement .evTimer := by
  unfold Statement; decide

end Sys2Proof.Laws
end

