-- ==== Sys2Proof/Laws/Slots.lean ====
section
/-! SUPPORT. The laws of four like things indexed by slot. -/

namespace Sys2Proof.Machine

theorem slotId_cases (i : SlotId) : i = 0 ∨ i = 1 ∨ i = 2 ∨ i = 3 := by
  revert i; decide

@[simp] theorem slotGet_slotSet_self {α : Type} (q : Slots α) (i : SlotId) (a : α) :
    slotGet (slotSet q i a) i = a := by
  rcases slotId_cases i with rfl | rfl | rfl | rfl <;> rfl

theorem slotGet_slotSet_other {α : Type} (q : Slots α) (i j : SlotId) (a : α) (h : j ≠ i) :
    slotGet (slotSet q i a) j = slotGet q j := by
  rcases slotId_cases i with rfl | rfl | rfl | rfl <;>
    rcases slotId_cases j with rfl | rfl | rfl | rfl <;> first | rfl | exact absurd rfl h

theorem slotGet_slotSet {α : Type} (q : Slots α) (i j : SlotId) (a : α) :
    slotGet (slotSet q i a) j = if j = i then a else slotGet q j := by
  split
  · subst_vars; simp
  · exact slotGet_slotSet_other q i j a ‹_›

@[simp] theorem slotGet_slotsAll {α : Type} (a : α) (i : SlotId) : slotGet (slotsAll a) i = a := by
  rcases slotId_cases i with rfl | rfl | rfl | rfl <;> rfl

@[simp] theorem slotSet_slotGet {α : Type} (q : Slots α) (i : SlotId) : slotSet q i (slotGet q i) = q := by
  rcases slotId_cases i with rfl | rfl | rfl | rfl <;> rfl

/-- Four things are equal when they are equal slot by slot. -/
theorem slots_ext {α : Type} {p q : Slots α} (h : ∀ i, slotGet p i = slotGet q i) : p = q := by
  have h0 := h 0
  have h1 := h 1
  have h2 := h 2
  have h3 := h 3
  cases p; cases q
  simp only [slotGet] at h0 h1 h2 h3
  simp_all

/-- Writes to different slots commute. -/
theorem slotSet_comm {α : Type} (q : Slots α) (i j : SlotId) (a b : α) (h : i ≠ j) :
    slotSet (slotSet q i a) j b = slotSet (slotSet q j b) i a := by
  refine slots_ext fun k => ?_
  simp only [slotGet_slotSet]
  split <;> split <;> simp_all

end Sys2Proof.Machine
end

