-- ==== Sys2Proof/Laws/State.lean ====
section
/-! SUPPORT. One lemma per field per shared update of the state, so that no proof unfolds a record update. -/

namespace Sys2Proof.Machine

variable (s : State)

@[simp] theorem emit_cfg (e : OutEvent) : (emit e s).cfg = s.cfg := rfl
@[simp] theorem emit_enabled (e : OutEvent) : (emit e s).enabled = s.enabled := rfl
@[simp] theorem emit_locked (e : OutEvent) : (emit e s).locked = s.locked := rfl
@[simp] theorem emit_playerCount (e : OutEvent) : (emit e s).playerCount = s.playerCount := rfl
@[simp] theorem emit_currentPlayerId (e : OutEvent) : (emit e s).currentPlayerId = s.currentPlayerId := rfl
@[simp] theorem emit_incoming (e : OutEvent) : (emit e s).incoming = s.incoming := rfl
@[simp] theorem emit_outgoing (e : OutEvent) : (emit e s).outgoing = s.outgoing := rfl
@[simp] theorem emit_timeouts (e : OutEvent) : (emit e s).timeouts = s.timeouts := rfl
@[simp] theorem emit_irqFlag (e : OutEvent) : (emit e s).irqFlag = s.irqFlag := rfl
@[simp] theorem emit_irqTimeout (e : OutEvent) : (emit e s).irqTimeout = s.irqTimeout := rfl
@[simp] theorem emit_ctrl (e : OutEvent) : (emit e s).ctrl = s.ctrl := rfl
@[simp] theorem emit_mode (e : OutEvent) : (emit e s).mode = s.mode := rfl
@[simp] theorem emit_txdata (e : OutEvent) : (emit e s).txdata = s.txdata := rfl
@[simp] theorem emit_rxslot (e : OutEvent) : (emit e s).rxslot = s.rxslot := rfl
@[simp] theorem emit_tmrSel (e : OutEvent) : (emit e s).tmrSel = s.tmrSel := rfl
@[simp] theorem emit_tmrReload (e : OutEvent) : (emit e s).tmrReload = s.tmrReload := rfl
@[simp] theorem emit_tmrEn (e : OutEvent) : (emit e s).tmrEn = s.tmrEn := rfl
@[simp] theorem emit_tmrIrqEn (e : OutEvent) : (emit e s).tmrIrqEn = s.tmrIrqEn := rfl
@[simp] theorem emit_resp (e : OutEvent) : (emit e s).resp = s.resp := rfl
@[simp] theorem emit_trace (e : OutEvent) : (emit e s).trace = s.trace ++ [e] := rfl
@[simp] theorem emit_absorbed (e : OutEvent) : (emit e s).absorbed = s.absorbed := rfl
@[simp] theorem emit_inputs (e : OutEvent) : (emit e s).inputs = s.inputs := rfl
@[simp] theorem emit_draws (e : OutEvent) : (emit e s).draws = s.draws := rfl

@[simp] theorem absorb_cfg (f : AbsorbedFault) : (absorb f s).cfg = s.cfg := rfl
@[simp] theorem absorb_enabled (f : AbsorbedFault) : (absorb f s).enabled = s.enabled := rfl
@[simp] theorem absorb_locked (f : AbsorbedFault) : (absorb f s).locked = s.locked := rfl
@[simp] theorem absorb_playerCount (f : AbsorbedFault) : (absorb f s).playerCount = s.playerCount := rfl
@[simp] theorem absorb_currentPlayerId (f : AbsorbedFault) : (absorb f s).currentPlayerId = s.currentPlayerId := rfl
@[simp] theorem absorb_incoming (f : AbsorbedFault) : (absorb f s).incoming = s.incoming := rfl
@[simp] theorem absorb_outgoing (f : AbsorbedFault) : (absorb f s).outgoing = s.outgoing := rfl
@[simp] theorem absorb_timeouts (f : AbsorbedFault) : (absorb f s).timeouts = s.timeouts := rfl
@[simp] theorem absorb_irqFlag (f : AbsorbedFault) : (absorb f s).irqFlag = s.irqFlag := rfl
@[simp] theorem absorb_irqTimeout (f : AbsorbedFault) : (absorb f s).irqTimeout = s.irqTimeout := rfl
@[simp] theorem absorb_ctrl (f : AbsorbedFault) : (absorb f s).ctrl = s.ctrl := rfl
@[simp] theorem absorb_mode (f : AbsorbedFault) : (absorb f s).mode = s.mode := rfl
@[simp] theorem absorb_txdata (f : AbsorbedFault) : (absorb f s).txdata = s.txdata := rfl
@[simp] theorem absorb_rxslot (f : AbsorbedFault) : (absorb f s).rxslot = s.rxslot := rfl
@[simp] theorem absorb_tmrSel (f : AbsorbedFault) : (absorb f s).tmrSel = s.tmrSel := rfl
@[simp] theorem absorb_tmrReload (f : AbsorbedFault) : (absorb f s).tmrReload = s.tmrReload := rfl
@[simp] theorem absorb_tmrEn (f : AbsorbedFault) : (absorb f s).tmrEn = s.tmrEn := rfl
@[simp] theorem absorb_tmrIrqEn (f : AbsorbedFault) : (absorb f s).tmrIrqEn = s.tmrIrqEn := rfl
@[simp] theorem absorb_resp (f : AbsorbedFault) : (absorb f s).resp = s.resp := rfl
@[simp] theorem absorb_trace (f : AbsorbedFault) : (absorb f s).trace = s.trace := rfl
@[simp] theorem absorb_absorbed (f : AbsorbedFault) : (absorb f s).absorbed = s.absorbed ++ [f] := rfl
@[simp] theorem absorb_inputs (f : AbsorbedFault) : (absorb f s).inputs = s.inputs := rfl
@[simp] theorem absorb_draws (f : AbsorbedFault) : (absorb f s).draws = s.draws := rfl

@[simp] theorem absorbIf_cfg (b : Bool) (f : AbsorbedFault) : (absorbIf b f s).cfg = s.cfg := by unfold absorbIf; split <;> rfl
@[simp] theorem absorbIf_enabled (b : Bool) (f : AbsorbedFault) : (absorbIf b f s).enabled = s.enabled := by unfold absorbIf; split <;> rfl
@[simp] theorem absorbIf_locked (b : Bool) (f : AbsorbedFault) : (absorbIf b f s).locked = s.locked := by unfold absorbIf; split <;> rfl
@[simp] theorem absorbIf_playerCount (b : Bool) (f : AbsorbedFault) : (absorbIf b f s).playerCount = s.playerCount := by unfold absorbIf; split <;> rfl
@[simp] theorem absorbIf_currentPlayerId (b : Bool) (f : AbsorbedFault) : (absorbIf b f s).currentPlayerId = s.currentPlayerId := by unfold absorbIf; split <;> rfl
@[simp] theorem absorbIf_incoming (b : Bool) (f : AbsorbedFault) : (absorbIf b f s).incoming = s.incoming := by unfold absorbIf; split <;> rfl
@[simp] theorem absorbIf_outgoing (b : Bool) (f : AbsorbedFault) : (absorbIf b f s).outgoing = s.outgoing := by unfold absorbIf; split <;> rfl
@[simp] theorem absorbIf_timeouts (b : Bool) (f : AbsorbedFault) : (absorbIf b f s).timeouts = s.timeouts := by unfold absorbIf; split <;> rfl
@[simp] theorem absorbIf_irqFlag (b : Bool) (f : AbsorbedFault) : (absorbIf b f s).irqFlag = s.irqFlag := by unfold absorbIf; split <;> rfl
@[simp] theorem absorbIf_irqTimeout (b : Bool) (f : AbsorbedFault) : (absorbIf b f s).irqTimeout = s.irqTimeout := by unfold absorbIf; split <;> rfl
@[simp] theorem absorbIf_ctrl (b : Bool) (f : AbsorbedFault) : (absorbIf b f s).ctrl = s.ctrl := by unfold absorbIf; split <;> rfl
@[simp] theorem absorbIf_mode (b : Bool) (f : AbsorbedFault) : (absorbIf b f s).mode = s.mode := by unfold absorbIf; split <;> rfl
@[simp] theorem absorbIf_txdata (b : Bool) (f : AbsorbedFault) : (absorbIf b f s).txdata = s.txdata := by unfold absorbIf; split <;> rfl
@[simp] theorem absorbIf_rxslot (b : Bool) (f : AbsorbedFault) : (absorbIf b f s).rxslot = s.rxslot := by unfold absorbIf; split <;> rfl
@[simp] theorem absorbIf_tmrSel (b : Bool) (f : AbsorbedFault) : (absorbIf b f s).tmrSel = s.tmrSel := by unfold absorbIf; split <;> rfl
@[simp] theorem absorbIf_tmrReload (b : Bool) (f : AbsorbedFault) : (absorbIf b f s).tmrReload = s.tmrReload := by unfold absorbIf; split <;> rfl
@[simp] theorem absorbIf_tmrEn (b : Bool) (f : AbsorbedFault) : (absorbIf b f s).tmrEn = s.tmrEn := by unfold absorbIf; split <;> rfl
@[simp] theorem absorbIf_tmrIrqEn (b : Bool) (f : AbsorbedFault) : (absorbIf b f s).tmrIrqEn = s.tmrIrqEn := by unfold absorbIf; split <;> rfl
@[simp] theorem absorbIf_resp (b : Bool) (f : AbsorbedFault) : (absorbIf b f s).resp = s.resp := by unfold absorbIf; split <;> rfl
@[simp] theorem absorbIf_trace (b : Bool) (f : AbsorbedFault) : (absorbIf b f s).trace = s.trace := by unfold absorbIf; split <;> rfl
@[simp] theorem absorbIf_absorbed (b : Bool) (f : AbsorbedFault) : (absorbIf b f s).absorbed = if b then s.absorbed ++ [f] else s.absorbed := by unfold absorbIf; split <;> rfl
@[simp] theorem absorbIf_inputs (b : Bool) (f : AbsorbedFault) : (absorbIf b f s).inputs = s.inputs := by unfold absorbIf; split <;> rfl
@[simp] theorem absorbIf_draws (b : Bool) (f : AbsorbedFault) : (absorbIf b f s).draws = s.draws := by unfold absorbIf; split <;> rfl

@[simp] theorem respond_cfg (v : Word) : (respond v s).cfg = s.cfg := rfl
@[simp] theorem respond_enabled (v : Word) : (respond v s).enabled = s.enabled := rfl
@[simp] theorem respond_locked (v : Word) : (respond v s).locked = s.locked := rfl
@[simp] theorem respond_playerCount (v : Word) : (respond v s).playerCount = s.playerCount := rfl
@[simp] theorem respond_currentPlayerId (v : Word) : (respond v s).currentPlayerId = s.currentPlayerId := rfl
@[simp] theorem respond_incoming (v : Word) : (respond v s).incoming = s.incoming := rfl
@[simp] theorem respond_outgoing (v : Word) : (respond v s).outgoing = s.outgoing := rfl
@[simp] theorem respond_timeouts (v : Word) : (respond v s).timeouts = s.timeouts := rfl
@[simp] theorem respond_irqFlag (v : Word) : (respond v s).irqFlag = s.irqFlag := rfl
@[simp] theorem respond_irqTimeout (v : Word) : (respond v s).irqTimeout = s.irqTimeout := rfl
@[simp] theorem respond_ctrl (v : Word) : (respond v s).ctrl = s.ctrl := rfl
@[simp] theorem respond_mode (v : Word) : (respond v s).mode = s.mode := rfl
@[simp] theorem respond_txdata (v : Word) : (respond v s).txdata = s.txdata := rfl
@[simp] theorem respond_rxslot (v : Word) : (respond v s).rxslot = s.rxslot := rfl
@[simp] theorem respond_tmrSel (v : Word) : (respond v s).tmrSel = s.tmrSel := rfl
@[simp] theorem respond_tmrReload (v : Word) : (respond v s).tmrReload = s.tmrReload := rfl
@[simp] theorem respond_tmrEn (v : Word) : (respond v s).tmrEn = s.tmrEn := rfl
@[simp] theorem respond_tmrIrqEn (v : Word) : (respond v s).tmrIrqEn = s.tmrIrqEn := rfl
@[simp] theorem respond_resp (v : Word) : (respond v s).resp = v := rfl
@[simp] theorem respond_trace (v : Word) : (respond v s).trace = s.trace := rfl
@[simp] theorem respond_absorbed (v : Word) : (respond v s).absorbed = s.absorbed := rfl
@[simp] theorem respond_inputs (v : Word) : (respond v s).inputs = s.inputs := rfl
@[simp] theorem respond_draws (v : Word) : (respond v s).draws = s.draws := rfl

@[simp] theorem setTimeout_cfg (i : SlotId) (t : Timeout) : (setTimeout i t s).cfg = s.cfg := rfl
@[simp] theorem setTimeout_enabled (i : SlotId) (t : Timeout) : (setTimeout i t s).enabled = s.enabled := rfl
@[simp] theorem setTimeout_locked (i : SlotId) (t : Timeout) : (setTimeout i t s).locked = s.locked := rfl
@[simp] theorem setTimeout_playerCount (i : SlotId) (t : Timeout) : (setTimeout i t s).playerCount = s.playerCount := rfl
@[simp] theorem setTimeout_currentPlayerId (i : SlotId) (t : Timeout) : (setTimeout i t s).currentPlayerId = s.currentPlayerId := rfl
@[simp] theorem setTimeout_incoming (i : SlotId) (t : Timeout) : (setTimeout i t s).incoming = s.incoming := rfl
@[simp] theorem setTimeout_outgoing (i : SlotId) (t : Timeout) : (setTimeout i t s).outgoing = s.outgoing := rfl
@[simp] theorem setTimeout_timeouts (i : SlotId) (t : Timeout) : (setTimeout i t s).timeouts = slotSet s.timeouts i t := rfl
@[simp] theorem setTimeout_irqFlag (i : SlotId) (t : Timeout) : (setTimeout i t s).irqFlag = s.irqFlag := rfl
@[simp] theorem setTimeout_irqTimeout (i : SlotId) (t : Timeout) : (setTimeout i t s).irqTimeout = s.irqTimeout := rfl
@[simp] theorem setTimeout_ctrl (i : SlotId) (t : Timeout) : (setTimeout i t s).ctrl = s.ctrl := rfl
@[simp] theorem setTimeout_mode (i : SlotId) (t : Timeout) : (setTimeout i t s).mode = s.mode := rfl
@[simp] theorem setTimeout_txdata (i : SlotId) (t : Timeout) : (setTimeout i t s).txdata = s.txdata := rfl
@[simp] theorem setTimeout_rxslot (i : SlotId) (t : Timeout) : (setTimeout i t s).rxslot = s.rxslot := rfl
@[simp] theorem setTimeout_tmrSel (i : SlotId) (t : Timeout) : (setTimeout i t s).tmrSel = s.tmrSel := rfl
@[simp] theorem setTimeout_tmrReload (i : SlotId) (t : Timeout) : (setTimeout i t s).tmrReload = s.tmrReload := rfl
@[simp] theorem setTimeout_tmrEn (i : SlotId) (t : Timeout) : (setTimeout i t s).tmrEn = s.tmrEn := rfl
@[simp] theorem setTimeout_tmrIrqEn (i : SlotId) (t : Timeout) : (setTimeout i t s).tmrIrqEn = s.tmrIrqEn := rfl
@[simp] theorem setTimeout_resp (i : SlotId) (t : Timeout) : (setTimeout i t s).resp = s.resp := rfl
@[simp] theorem setTimeout_trace (i : SlotId) (t : Timeout) : (setTimeout i t s).trace = s.trace := rfl
@[simp] theorem setTimeout_absorbed (i : SlotId) (t : Timeout) : (setTimeout i t s).absorbed = s.absorbed := rfl
@[simp] theorem setTimeout_inputs (i : SlotId) (t : Timeout) : (setTimeout i t s).inputs = s.inputs := rfl
@[simp] theorem setTimeout_draws (i : SlotId) (t : Timeout) : (setTimeout i t s).draws = s.draws := rfl

@[simp] theorem pushIncoming_cfg (i : SlotId) (v : Word) : (pushIncoming i v s).cfg = s.cfg := by simp [pushIncoming]
@[simp] theorem pushIncoming_enabled (i : SlotId) (v : Word) : (pushIncoming i v s).enabled = s.enabled := by simp [pushIncoming]
@[simp] theorem pushIncoming_locked (i : SlotId) (v : Word) : (pushIncoming i v s).locked = s.locked := by simp [pushIncoming]
@[simp] theorem pushIncoming_playerCount (i : SlotId) (v : Word) : (pushIncoming i v s).playerCount = s.playerCount := by simp [pushIncoming]
@[simp] theorem pushIncoming_currentPlayerId (i : SlotId) (v : Word) : (pushIncoming i v s).currentPlayerId = s.currentPlayerId := by simp [pushIncoming]
@[simp] theorem pushIncoming_incoming (i : SlotId) (v : Word) : (pushIncoming i v s).incoming = slotSet s.incoming i (fifoPush s.cfg.queueCapacity (slotGet s.incoming i) v) := by simp [pushIncoming]
@[simp] theorem pushIncoming_outgoing (i : SlotId) (v : Word) : (pushIncoming i v s).outgoing = s.outgoing := by simp [pushIncoming]
@[simp] theorem pushIncoming_timeouts (i : SlotId) (v : Word) : (pushIncoming i v s).timeouts = s.timeouts := by simp [pushIncoming]
@[simp] theorem pushIncoming_irqFlag (i : SlotId) (v : Word) : (pushIncoming i v s).irqFlag = s.irqFlag := by simp [pushIncoming]
@[simp] theorem pushIncoming_irqTimeout (i : SlotId) (v : Word) : (pushIncoming i v s).irqTimeout = s.irqTimeout := by simp [pushIncoming]
@[simp] theorem pushIncoming_ctrl (i : SlotId) (v : Word) : (pushIncoming i v s).ctrl = s.ctrl := by simp [pushIncoming]
@[simp] theorem pushIncoming_mode (i : SlotId) (v : Word) : (pushIncoming i v s).mode = s.mode := by simp [pushIncoming]
@[simp] theorem pushIncoming_txdata (i : SlotId) (v : Word) : (pushIncoming i v s).txdata = s.txdata := by simp [pushIncoming]
@[simp] theorem pushIncoming_rxslot (i : SlotId) (v : Word) : (pushIncoming i v s).rxslot = s.rxslot := by simp [pushIncoming]
@[simp] theorem pushIncoming_tmrSel (i : SlotId) (v : Word) : (pushIncoming i v s).tmrSel = s.tmrSel := by simp [pushIncoming]
@[simp] theorem pushIncoming_tmrReload (i : SlotId) (v : Word) : (pushIncoming i v s).tmrReload = s.tmrReload := by simp [pushIncoming]
@[simp] theorem pushIncoming_tmrEn (i : SlotId) (v : Word) : (pushIncoming i v s).tmrEn = s.tmrEn := by simp [pushIncoming]
@[simp] theorem pushIncoming_tmrIrqEn (i : SlotId) (v : Word) : (pushIncoming i v s).tmrIrqEn = s.tmrIrqEn := by simp [pushIncoming]
@[simp] theorem pushIncoming_resp (i : SlotId) (v : Word) : (pushIncoming i v s).resp = s.resp := by simp [pushIncoming]
@[simp] theorem pushIncoming_trace (i : SlotId) (v : Word) : (pushIncoming i v s).trace = s.trace := by simp [pushIncoming]
@[simp] theorem pushIncoming_absorbed (i : SlotId) (v : Word) :
    (pushIncoming i v s).absorbed =
      if ringFull s.cfg.queueCapacity (slotGet s.incoming i) then s.absorbed ++ [.overflow] else s.absorbed := by simp [pushIncoming]
@[simp] theorem pushIncoming_inputs (i : SlotId) (v : Word) : (pushIncoming i v s).inputs = s.inputs := by simp [pushIncoming]
@[simp] theorem pushIncoming_draws (i : SlotId) (v : Word) : (pushIncoming i v s).draws = s.draws := by simp [pushIncoming]

@[simp] theorem pushOutgoing_cfg (v : Word) : (pushOutgoing v s).cfg = s.cfg := by simp [pushOutgoing]
@[simp] theorem pushOutgoing_enabled (v : Word) : (pushOutgoing v s).enabled = s.enabled := by simp [pushOutgoing]
@[simp] theorem pushOutgoing_locked (v : Word) : (pushOutgoing v s).locked = s.locked := by simp [pushOutgoing]
@[simp] theorem pushOutgoing_playerCount (v : Word) : (pushOutgoing v s).playerCount = s.playerCount := by simp [pushOutgoing]
@[simp] theorem pushOutgoing_currentPlayerId (v : Word) : (pushOutgoing v s).currentPlayerId = s.currentPlayerId := by simp [pushOutgoing]
@[simp] theorem pushOutgoing_incoming (v : Word) : (pushOutgoing v s).incoming = s.incoming := by simp [pushOutgoing]
@[simp] theorem pushOutgoing_outgoing (v : Word) : (pushOutgoing v s).outgoing = fifoPush s.cfg.queueCapacity s.outgoing v := by simp [pushOutgoing]
@[simp] theorem pushOutgoing_timeouts (v : Word) : (pushOutgoing v s).timeouts = s.timeouts := by simp [pushOutgoing]
@[simp] theorem pushOutgoing_irqFlag (v : Word) : (pushOutgoing v s).irqFlag = s.irqFlag := by simp [pushOutgoing]
@[simp] theorem pushOutgoing_irqTimeout (v : Word) : (pushOutgoing v s).irqTimeout = s.irqTimeout := by simp [pushOutgoing]
@[simp] theorem pushOutgoing_ctrl (v : Word) : (pushOutgoing v s).ctrl = s.ctrl := by simp [pushOutgoing]
@[simp] theorem pushOutgoing_mode (v : Word) : (pushOutgoing v s).mode = s.mode := by simp [pushOutgoing]
@[simp] theorem pushOutgoing_txdata (v : Word) : (pushOutgoing v s).txdata = s.txdata := by simp [pushOutgoing]
@[simp] theorem pushOutgoing_rxslot (v : Word) : (pushOutgoing v s).rxslot = s.rxslot := by simp [pushOutgoing]
@[simp] theorem pushOutgoing_tmrSel (v : Word) : (pushOutgoing v s).tmrSel = s.tmrSel := by simp [pushOutgoing]
@[simp] theorem pushOutgoing_tmrReload (v : Word) : (pushOutgoing v s).tmrReload = s.tmrReload := by simp [pushOutgoing]
@[simp] theorem pushOutgoing_tmrEn (v : Word) : (pushOutgoing v s).tmrEn = s.tmrEn := by simp [pushOutgoing]
@[simp] theorem pushOutgoing_tmrIrqEn (v : Word) : (pushOutgoing v s).tmrIrqEn = s.tmrIrqEn := by simp [pushOutgoing]
@[simp] theorem pushOutgoing_resp (v : Word) : (pushOutgoing v s).resp = s.resp := by simp [pushOutgoing]
@[simp] theorem pushOutgoing_trace (v : Word) : (pushOutgoing v s).trace = s.trace := by simp [pushOutgoing]
@[simp] theorem pushOutgoing_absorbed (v : Word) : (pushOutgoing v s).absorbed = if ringFull s.cfg.queueCapacity s.outgoing then s.absorbed ++ [.overflow] else s.absorbed := by simp [pushOutgoing]
@[simp] theorem pushOutgoing_inputs (v : Word) : (pushOutgoing v s).inputs = s.inputs := by simp [pushOutgoing]
@[simp] theorem pushOutgoing_draws (v : Word) : (pushOutgoing v s).draws = s.draws := by simp [pushOutgoing]

@[simp] theorem startExchange_cfg (v : Word) : (startExchange v s).cfg = s.cfg := rfl
@[simp] theorem startExchange_enabled (v : Word) : (startExchange v s).enabled = s.enabled := rfl
@[simp] theorem startExchange_locked (v : Word) : (startExchange v s).locked = s.locked := rfl
@[simp] theorem startExchange_playerCount (v : Word) : (startExchange v s).playerCount = s.playerCount := rfl
@[simp] theorem startExchange_currentPlayerId (v : Word) : (startExchange v s).currentPlayerId = s.currentPlayerId := rfl
@[simp] theorem startExchange_incoming (v : Word) : (startExchange v s).incoming = s.incoming := rfl
@[simp] theorem startExchange_outgoing (v : Word) : (startExchange v s).outgoing = s.outgoing := rfl
@[simp] theorem startExchange_timeouts (v : Word) : (startExchange v s).timeouts = s.timeouts := rfl
@[simp] theorem startExchange_irqFlag (v : Word) : (startExchange v s).irqFlag = s.irqFlag := rfl
@[simp] theorem startExchange_irqTimeout (v : Word) : (startExchange v s).irqTimeout = s.irqTimeout := rfl
@[simp] theorem startExchange_ctrl (v : Word) : (startExchange v s).ctrl = setCtrlStart true s.ctrl := rfl
@[simp] theorem startExchange_mode (v : Word) : (startExchange v s).mode = s.mode := rfl
@[simp] theorem startExchange_txdata (v : Word) : (startExchange v s).txdata = v := rfl
@[simp] theorem startExchange_rxslot (v : Word) : (startExchange v s).rxslot = s.rxslot := rfl
@[simp] theorem startExchange_tmrSel (v : Word) : (startExchange v s).tmrSel = s.tmrSel := rfl
@[simp] theorem startExchange_tmrReload (v : Word) : (startExchange v s).tmrReload = s.tmrReload := rfl
@[simp] theorem startExchange_tmrEn (v : Word) : (startExchange v s).tmrEn = s.tmrEn := rfl
@[simp] theorem startExchange_tmrIrqEn (v : Word) : (startExchange v s).tmrIrqEn = s.tmrIrqEn := rfl
@[simp] theorem startExchange_resp (v : Word) : (startExchange v s).resp = s.resp := rfl
@[simp] theorem startExchange_trace (v : Word) : (startExchange v s).trace = s.trace ++ [.exchangeStart v] := rfl
@[simp] theorem startExchange_absorbed (v : Word) : (startExchange v s).absorbed = s.absorbed := rfl
@[simp] theorem startExchange_inputs (v : Word) : (startExchange v s).inputs = s.inputs := rfl
@[simp] theorem startExchange_draws (v : Word) : (startExchange v s).draws = s.draws := rfl

@[simp] theorem loadReply_cfg (v : Word) : (loadReply v s).cfg = s.cfg := rfl
@[simp] theorem loadReply_enabled (v : Word) : (loadReply v s).enabled = s.enabled := rfl
@[simp] theorem loadReply_locked (v : Word) : (loadReply v s).locked = s.locked := rfl
@[simp] theorem loadReply_playerCount (v : Word) : (loadReply v s).playerCount = s.playerCount := rfl
@[simp] theorem loadReply_currentPlayerId (v : Word) : (loadReply v s).currentPlayerId = s.currentPlayerId := rfl
@[simp] theorem loadReply_incoming (v : Word) : (loadReply v s).incoming = s.incoming := rfl
@[simp] theorem loadReply_outgoing (v : Word) : (loadReply v s).outgoing = s.outgoing := rfl
@[simp] theorem loadReply_timeouts (v : Word) : (loadReply v s).timeouts = s.timeouts := rfl
@[simp] theorem loadReply_irqFlag (v : Word) : (loadReply v s).irqFlag = s.irqFlag := rfl
@[simp] theorem loadReply_irqTimeout (v : Word) : (loadReply v s).irqTimeout = s.irqTimeout := rfl
@[simp] theorem loadReply_ctrl (v : Word) : (loadReply v s).ctrl = s.ctrl := rfl
@[simp] theorem loadReply_mode (v : Word) : (loadReply v s).mode = s.mode := rfl
@[simp] theorem loadReply_txdata (v : Word) : (loadReply v s).txdata = v := rfl
@[simp] theorem loadReply_rxslot (v : Word) : (loadReply v s).rxslot = s.rxslot := rfl
@[simp] theorem loadReply_tmrSel (v : Word) : (loadReply v s).tmrSel = s.tmrSel := rfl
@[simp] theorem loadReply_tmrReload (v : Word) : (loadReply v s).tmrReload = s.tmrReload := rfl
@[simp] theorem loadReply_tmrEn (v : Word) : (loadReply v s).tmrEn = s.tmrEn := rfl
@[simp] theorem loadReply_tmrIrqEn (v : Word) : (loadReply v s).tmrIrqEn = s.tmrIrqEn := rfl
@[simp] theorem loadReply_resp (v : Word) : (loadReply v s).resp = s.resp := rfl
@[simp] theorem loadReply_trace (v : Word) : (loadReply v s).trace = s.trace ++ [.txWrite v] := rfl
@[simp] theorem loadReply_absorbed (v : Word) : (loadReply v s).absorbed = s.absorbed := rfl
@[simp] theorem loadReply_inputs (v : Word) : (loadReply v s).inputs = s.inputs := rfl
@[simp] theorem loadReply_draws (v : Word) : (loadReply v s).draws = s.draws := rfl

@[simp] theorem transportConfig_cfg : (transportConfig s).cfg = s.cfg := rfl
@[simp] theorem transportConfig_enabled : (transportConfig s).enabled = s.enabled := rfl
@[simp] theorem transportConfig_locked : (transportConfig s).locked = s.locked := rfl
@[simp] theorem transportConfig_playerCount : (transportConfig s).playerCount = s.playerCount := rfl
@[simp] theorem transportConfig_currentPlayerId : (transportConfig s).currentPlayerId = s.currentPlayerId := rfl
@[simp] theorem transportConfig_incoming : (transportConfig s).incoming = s.incoming := rfl
@[simp] theorem transportConfig_outgoing : (transportConfig s).outgoing = s.outgoing := rfl
@[simp] theorem transportConfig_timeouts : (transportConfig s).timeouts = s.timeouts := rfl
@[simp] theorem transportConfig_irqFlag : (transportConfig s).irqFlag = s.irqFlag := rfl
@[simp] theorem transportConfig_irqTimeout : (transportConfig s).irqTimeout = s.irqTimeout := rfl
@[simp] theorem transportConfig_ctrl : (transportConfig s).ctrl = setCtrlStart false (setCtrlMulti true (setCtrlOther (cfgOtherWord s.cfg) s.ctrl)) := rfl
@[simp] theorem transportConfig_mode : (transportConfig s).mode = setModeSel s.cfg.modeMulti s.mode := rfl
@[simp] theorem transportConfig_txdata : (transportConfig s).txdata = noDataWord := rfl
@[simp] theorem transportConfig_rxslot : (transportConfig s).rxslot = s.rxslot := rfl
@[simp] theorem transportConfig_tmrSel : (transportConfig s).tmrSel = s.tmrSel := rfl
@[simp] theorem transportConfig_tmrReload : (transportConfig s).tmrReload = s.tmrReload := rfl
@[simp] theorem transportConfig_tmrEn : (transportConfig s).tmrEn = s.tmrEn := rfl
@[simp] theorem transportConfig_tmrIrqEn : (transportConfig s).tmrIrqEn = s.tmrIrqEn := rfl
@[simp] theorem transportConfig_resp : (transportConfig s).resp = s.resp := rfl
@[simp] theorem transportConfig_trace : (transportConfig s).trace = s.trace ++ [.transportConfig s.cfg.modeMulti] := rfl
@[simp] theorem transportConfig_absorbed : (transportConfig s).absorbed = s.absorbed := rfl
@[simp] theorem transportConfig_inputs : (transportConfig s).inputs = s.inputs := rfl
@[simp] theorem transportConfig_draws : (transportConfig s).draws = s.draws := rfl

@[simp] theorem timerStart_cfg : (timerStart s).cfg = s.cfg := rfl
@[simp] theorem timerStart_enabled : (timerStart s).enabled = s.enabled := rfl
@[simp] theorem timerStart_locked : (timerStart s).locked = s.locked := rfl
@[simp] theorem timerStart_playerCount : (timerStart s).playerCount = s.playerCount := rfl
@[simp] theorem timerStart_currentPlayerId : (timerStart s).currentPlayerId = s.currentPlayerId := rfl
@[simp] theorem timerStart_incoming : (timerStart s).incoming = s.incoming := rfl
@[simp] theorem timerStart_outgoing : (timerStart s).outgoing = s.outgoing := rfl
@[simp] theorem timerStart_timeouts : (timerStart s).timeouts = s.timeouts := rfl
@[simp] theorem timerStart_irqFlag : (timerStart s).irqFlag = s.irqFlag := rfl
@[simp] theorem timerStart_irqTimeout : (timerStart s).irqTimeout = s.irqTimeout := rfl
@[simp] theorem timerStart_ctrl : (timerStart s).ctrl = s.ctrl := rfl
@[simp] theorem timerStart_mode : (timerStart s).mode = s.mode := rfl
@[simp] theorem timerStart_txdata : (timerStart s).txdata = s.txdata := rfl
@[simp] theorem timerStart_rxslot : (timerStart s).rxslot = s.rxslot := rfl
@[simp] theorem timerStart_tmrSel : (timerStart s).tmrSel = s.tmrSel := rfl
@[simp] theorem timerStart_tmrReload : (timerStart s).tmrReload = s.cfg.interval := rfl
@[simp] theorem timerStart_tmrEn : (timerStart s).tmrEn = true := rfl
@[simp] theorem timerStart_tmrIrqEn : (timerStart s).tmrIrqEn = true := rfl
@[simp] theorem timerStart_resp : (timerStart s).resp = s.resp := rfl
@[simp] theorem timerStart_trace : (timerStart s).trace = s.trace ++ [.timerStart] := rfl
@[simp] theorem timerStart_absorbed : (timerStart s).absorbed = s.absorbed := rfl
@[simp] theorem timerStart_inputs : (timerStart s).inputs = s.inputs := rfl
@[simp] theorem timerStart_draws : (timerStart s).draws = s.draws := rfl

@[simp] theorem resetSession_cfg : (resetSession s).cfg = s.cfg := rfl
@[simp] theorem resetSession_enabled : (resetSession s).enabled = s.enabled := rfl
@[simp] theorem resetSession_locked : (resetSession s).locked = s.locked := rfl
@[simp] theorem resetSession_playerCount : (resetSession s).playerCount = 0 := rfl
@[simp] theorem resetSession_currentPlayerId : (resetSession s).currentPlayerId = 0 := rfl
@[simp] theorem resetSession_incoming : (resetSession s).incoming = clearAll s.incoming := rfl
@[simp] theorem resetSession_outgoing : (resetSession s).outgoing = fifoClear s.outgoing := rfl
@[simp] theorem resetSession_timeouts : (resetSession s).timeouts = slotsAll .offline := rfl
@[simp] theorem resetSession_irqFlag : (resetSession s).irqFlag = false := rfl
@[simp] theorem resetSession_irqTimeout : (resetSession s).irqTimeout = 0 := rfl
@[simp] theorem resetSession_ctrl : (resetSession s).ctrl = s.ctrl := rfl
@[simp] theorem resetSession_mode : (resetSession s).mode = s.mode := rfl
@[simp] theorem resetSession_txdata : (resetSession s).txdata = s.txdata := rfl
@[simp] theorem resetSession_rxslot : (resetSession s).rxslot = s.rxslot := rfl
@[simp] theorem resetSession_tmrSel : (resetSession s).tmrSel = s.tmrSel := rfl
@[simp] theorem resetSession_tmrReload : (resetSession s).tmrReload = s.tmrReload := rfl
@[simp] theorem resetSession_tmrEn : (resetSession s).tmrEn = s.tmrEn := rfl
@[simp] theorem resetSession_tmrIrqEn : (resetSession s).tmrIrqEn = s.tmrIrqEn := rfl
@[simp] theorem resetSession_resp : (resetSession s).resp = s.resp := rfl
@[simp] theorem resetSession_trace : (resetSession s).trace = s.trace := rfl
@[simp] theorem resetSession_absorbed : (resetSession s).absorbed = s.absorbed := rfl
@[simp] theorem resetSession_inputs : (resetSession s).inputs = s.inputs := rfl
@[simp] theorem resetSession_draws : (resetSession s).draws = s.draws := rfl

@[simp] theorem forcedReset_cfg : (forcedReset s).cfg = s.cfg := rfl
@[simp] theorem forcedReset_enabled : (forcedReset s).enabled = s.enabled := rfl
@[simp] theorem forcedReset_locked : (forcedReset s).locked = s.locked := rfl
@[simp] theorem forcedReset_playerCount : (forcedReset s).playerCount = 0 := rfl
@[simp] theorem forcedReset_currentPlayerId : (forcedReset s).currentPlayerId = 0 := rfl
@[simp] theorem forcedReset_incoming : (forcedReset s).incoming = clearAll s.incoming := rfl
@[simp] theorem forcedReset_outgoing : (forcedReset s).outgoing = fifoClear s.outgoing := rfl
@[simp] theorem forcedReset_timeouts : (forcedReset s).timeouts = slotsAll .offline := rfl
@[simp] theorem forcedReset_irqFlag : (forcedReset s).irqFlag = false := rfl
@[simp] theorem forcedReset_irqTimeout : (forcedReset s).irqTimeout = 0 := rfl
@[simp] theorem forcedReset_ctrl : (forcedReset s).ctrl = setCtrlStart false (setCtrlMulti true (setCtrlOther (cfgOtherWord s.cfg) s.ctrl)) := rfl
@[simp] theorem forcedReset_mode : (forcedReset s).mode = setModeSel s.cfg.modeMulti s.mode := rfl
@[simp] theorem forcedReset_txdata : (forcedReset s).txdata = noDataWord := rfl
@[simp] theorem forcedReset_rxslot : (forcedReset s).rxslot = s.rxslot := rfl
@[simp] theorem forcedReset_tmrSel : (forcedReset s).tmrSel = s.tmrSel := rfl
@[simp] theorem forcedReset_tmrReload : (forcedReset s).tmrReload = s.cfg.interval := rfl
@[simp] theorem forcedReset_tmrEn : (forcedReset s).tmrEn = true := rfl
@[simp] theorem forcedReset_tmrIrqEn : (forcedReset s).tmrIrqEn = true := rfl
@[simp] theorem forcedReset_resp : (forcedReset s).resp = s.resp := rfl
@[simp] theorem forcedReset_trace : (forcedReset s).trace = s.trace ++ [.transportConfig s.cfg.modeMulti] ++ [.timerStart] := rfl
@[simp] theorem forcedReset_absorbed : (forcedReset s).absorbed = s.absorbed := rfl
@[simp] theorem forcedReset_inputs : (forcedReset s).inputs = s.inputs := rfl
@[simp] theorem forcedReset_draws : (forcedReset s).draws = s.draws := rfl

/-- What the next outbound word is taken from, and what is left (spec/42_sync_mux.md R157). -/
theorem nextOut_spec : nextOut s =
    ((fifoPop s.cfg.queueCapacity s.outgoing).1,
      { s with outgoing := (fifoPop s.cfg.queueCapacity s.outgoing).2 }) := rfl

@[simp] theorem slotGet_clearAll (q : Slots Ring) (i : SlotId) : slotGet (clearAll q) i = fifoClear (slotGet q i) := by
  rcases slotId_cases i with rfl | rfl | rfl | rfl <;> rfl

/-- RETIRE changes nothing but `locked`, and clears it (spec/42_sync_mux.md R162). -/
theorem retire_spec : retire s = { s with locked := false } := by
  unfold retire
  split
  · rfl
  · rename_i h
    simp only [Bool.not_eq_true] at h
    rw [← h]

/-- A guarded operation whose guard passes runs its body with `locked` set (spec/42_sync_mux.md R160). -/
theorem issue_pass {s : State} (body : State → State) (h : guardPasses s = true) :
    issue body s = body { s with locked := true } := by simp [issue, h]

/-- A guarded operation whose guard does not pass is skipped (spec/45_app_operations.md R236). -/
theorem issue_skip {s : State} (body : State → State) (h : guardPasses s = false) :
    issue body s = { s with resp := 0x0000, absorbed := s.absorbed ++ [.contention] } := by
  simp [issue, h, skip, respond, absorb]

/-- The rings of the state after reset have the canonical form of spec/40_fifo.md R126. -/
theorem reset_ringWf (i : SlotId) :
    ringWf State.reset.cfg.queueCapacity (slotGet State.reset.incoming i) = true ∧
    ringWf State.reset.cfg.queueCapacity State.reset.outgoing = true := by
  have h : ringWf 30 (Ring.powerOn 30) = true := powerOn_wf (by decide)
  rcases slotId_cases i with rfl | rfl | rfl | rfl <;> exact ⟨h, h⟩

end Sys2Proof.Machine
end

