-- ==== Sys2Proof/Laws/Run.lean ====
section
/-! SUPPORT. What fairness gives: in a fair run every lock window is finite (spec/20_memory.md R76), and over runs of the
step relation the two say the same. How runs, lists of labels and `step` agree. -/

namespace Sys2Proof.Machine

/-- RETIRE leaves no window open. -/
theorem presentLabel_retire {s t : State} (h : presentLabel .retire s = .next t) : t.locked = false := by
  simp only [presentLabel, performLabel, retire_spec, Host.Outcome.next.injEq] at h
  rw [← h]

/-- Fairness closes every window, in any sequence of states in which a RETIRE taken closes one. -/
theorem FairToRetire.windowsFinite {ls : Nat → StepLabel} {σ : Nat → State} (hf : FairToRetire ls σ)
    (hr : ∀ k, ls k = .retire → (σ (k + 1)).locked = false) : WindowsFinite σ := by
  intro k hk
  obtain ⟨j, hkj, hj | hj⟩ := hf k
  · have hj : (σ j).locked = false := hj
    refine ⟨j, Nat.lt_of_le_of_ne hkj ?_, hj⟩
    rintro rfl
    rw [hk] at hj
    cases hj
  · exact ⟨j + 1, Nat.lt_succ_of_le hkj, hr j hj⟩

/-- In a run of the step relation, fairness of RETIRE says exactly that every lock window is finite (R76). -/
theorem InfiniteRun.fair_iff_windowsFinite {ls : Nat → StepLabel} {σ : Nat → State} (h : InfiniteRun ls σ) :
    FairToRetire ls σ ↔ WindowsFinite σ := by
  refine ⟨fun hf => hf.windowsFinite fun k hk => presentLabel_retire (hk ▸ (h k).2), fun hw k => ?_⟩
  cases hk : (σ k).locked with
  | false => exact ⟨k, Nat.le_refl k, .inl hk⟩
  | true =>
    obtain ⟨j, hkj, hj⟩ := hw k hk
    exact ⟨j, Nat.le_of_lt hkj, .inl hj⟩

/-- In a fair run every lock window is finite (R76, R162). -/
theorem FairRun.windowsFinite {ls : Nat → StepLabel} {σ : Nat → State} (h : FairRun ls σ) : WindowsFinite σ :=
  h.1.fair_iff_windowsFinite.mp h.2

/-- What `step` does, once: with a legal configuration and its next label enabled, it is the step relation with that
label, from the state with the label taken off. -/
theorem step_eq_next_iff {s t : State} (hl : s.cfg.legal = true) (he : labelEnabled (nextLabel s) s = true) :
    step s = .next t ↔ StepsTo (nextLabel s) (takeLabel s) t := by
  have hsame : labelEnabled (nextLabel s) (takeLabel s) = labelEnabled (nextLabel s) s := by
    cases nextLabel s <;> simp only [labelEnabled, takeLabel] <;> split <;> rfl
  simp [step, hl, StepsTo, hsame, he]

/-- A fair run of the machine's own `step` has finite windows too. -/
theorem FairMachineRun.windowsFinite {σ : Nat → State} (h : FairMachineRun σ) : WindowsFinite σ := by
  refine h.2.windowsFinite fun k hk => ?_
  have hs := h.1 k
  unfold step at hs
  split at hs
  · exact presentLabel_retire (hk ▸ hs)
  · cases hs

/-- A finite run presents its labels one after another. -/
theorem FiniteRun.presentLabels_eq {ls : List StepLabel} {s t : State} (h : FiniteRun ls s t) :
    presentLabels ls s = .next t := by
  induction ls generalizing s with
  | nil => rw [show t = s from h]; rfl
  | cons l ls ih =>
    obtain ⟨u, hu, ht⟩ := h
    simp only [presentLabels, hu.2, ih ht]

end Sys2Proof.Machine
end

