-- ==== Sys2Proof/Laws/Serial.lean ====
section
/-! SUPPORT. What one iteration of the slot loop of EV_SERIAL does, once: the new counter, the new FIFO, whether the slot
is detected and the faults absorbed depend on the slot's own word, counter and FIFO only (spec/44_event_handlers.md
R208). -/

namespace Sys2Proof.Machine

/-- The counter after the tick. -/
def counterAfter (remoteTimeout : Nat) (r : Word) (t : Timeout) : Timeout :=
  if r = disconnectedWord then
    match t with
    | .offline => .offline
    | .live n => if n + 1 ≥ remoteTimeout then .offline else .live (n + 1)
  else if r = noDataWord then
    match t with
    | .offline => .offline
    | .live _ => .live 0
  else .live 0

/-- The counter passes its threshold at this tick. -/
def evictedAt (remoteTimeout : Nat) (r : Word) (t : Timeout) : Bool :=
  match t with
  | .offline => false
  | .live n => r = disconnectedWord && n + 1 ≥ remoteTimeout

/-- The FIFO after the tick; `isOwn` when the slot is the device's own. -/
def queueAfter (C remoteTimeout : Nat) (isOwn : Bool) (r : Word) (t : Timeout) (q : Ring) : Ring :=
  if evictedAt remoteTimeout r t then fifoClear q
  else if isRealValue r && !isOwn then fifoPush C q r else q

/-- Whether the slot is detected at the tick. -/
def detectedAfter (remoteTimeout : Nat) (r : Word) (t : Timeout) : Bool :=
  r ≠ disconnectedWord || isLive (counterAfter remoteTimeout r t)

/-- The faults absorbed at the slot. -/
def faultsAfter (C remoteTimeout : Nat) (isOwn : Bool) (i : SlotId) (r : Word) (t : Timeout) (q : Ring) :
    List AbsorbedFault :=
  if evictedAt remoteTimeout r t then [.peerTimeout i]
  else if isRealValue r && !isOwn && ringFull C q then [.overflow] else []

theorem slotTick_spec (own i : SlotId) (s : State) :
    slotTick own i s =
      (detectedAfter s.cfg.remoteTimeout (slotGet s.rxslot i) (slotGet s.timeouts i),
       { s with
         timeouts := slotSet s.timeouts i
           (counterAfter s.cfg.remoteTimeout (slotGet s.rxslot i) (slotGet s.timeouts i))
         incoming := slotSet s.incoming i
           (queueAfter s.cfg.queueCapacity s.cfg.remoteTimeout (i = own) (slotGet s.rxslot i)
             (slotGet s.timeouts i) (slotGet s.incoming i))
         absorbed := s.absorbed ++
           faultsAfter s.cfg.queueCapacity s.cfg.remoteTimeout (i = own) i (slotGet s.rxslot i)
             (slotGet s.timeouts i) (slotGet s.incoming i) }) := by
  unfold slotTick
  generalize hr : slotGet s.rxslot i = r
  by_cases hd : r = disconnectedWord
  · subst hd
    simp only [if_true, tMiss]
    cases ht : slotGet s.timeouts i with
    | offline =>
      have hs : slotSet s.timeouts i Timeout.offline = s.timeouts := by rw [← ht]; simp
      simp [counterAfter, queueAfter, evictedAt, detectedAfter, faultsAfter, isLive, isRealValue, isSentinel, hs]
    | live n =>
      by_cases hn : n + 1 ≥ s.cfg.remoteTimeout <;>
        simp [counterAfter, queueAfter, evictedAt, detectedAfter, faultsAfter, isLive, isRealValue, isSentinel, hn,
          setTimeout, absorb]
  · by_cases h0 : r = noDataWord
    · subst h0
      have hne : noDataWord ≠ disconnectedWord := by decide
      simp only [hne, if_false, if_true, tNodata]
      cases ht : slotGet s.timeouts i with
      | offline =>
        have hs : slotSet s.timeouts i Timeout.offline = s.timeouts := by rw [← ht]; simp
        simp [counterAfter, queueAfter, evictedAt, detectedAfter, faultsAfter, isRealValue, isSentinel, hne, hs]
      | live n =>
        simp [counterAfter, queueAfter, evictedAt, detectedAfter, faultsAfter, isRealValue, isSentinel, hne,
          setTimeout]
    · have hreal : isRealValue r = true := by simp [isRealValue, isSentinel, hd, h0]
      have hev : evictedAt s.cfg.remoteTimeout r (slotGet s.timeouts i) = false := by
        unfold evictedAt; cases slotGet s.timeouts i <;> simp [hd]
      simp only [hd, h0, if_false, tReal]
      by_cases ho : i = own
      · subst ho
        simp [counterAfter, queueAfter, detectedAfter, faultsAfter, hev, hreal, hd, h0, setTimeout]
      · simp only [counterAfter, queueAfter, detectedAfter, faultsAfter, hev, hreal, hd, h0, ho, setTimeout,
          pushIncoming, absorbIf, absorb]
        by_cases hf : ringFull s.cfg.queueCapacity (slotGet s.incoming i) = true <;> simp [hf, hd, ho]

/-- The state the slot loop leaves, over distinct slots: each listed slot's counter and FIFO as one tick leaves them,
everything else but the ghost list unchanged; the count is that of the detected slots. -/
theorem slotLoop_spec (own : SlotId) (is : List SlotId) (hn : is.Nodup) (cnt : Nat) (s : State) :
    ∃ tos inc ab,
      slotLoop own is cnt s =
        (cnt + (is.filter fun i =>
            detectedAfter s.cfg.remoteTimeout (slotGet s.rxslot i) (slotGet s.timeouts i)).length,
         { s with timeouts := tos, incoming := inc, absorbed := s.absorbed ++ ab }) ∧
      (∀ i, slotGet tos i =
        if i ∈ is then counterAfter s.cfg.remoteTimeout (slotGet s.rxslot i) (slotGet s.timeouts i)
        else slotGet s.timeouts i) ∧
      (∀ i, slotGet inc i =
        if i ∈ is then queueAfter s.cfg.queueCapacity s.cfg.remoteTimeout (i = own) (slotGet s.rxslot i)
          (slotGet s.timeouts i) (slotGet s.incoming i)
        else slotGet s.incoming i) := by
  induction is generalizing cnt s with
  | nil => exact ⟨s.timeouts, s.incoming, [], by simp [slotLoop], by simp, by simp⟩
  | cons a as ih =>
    obtain ⟨ha, has⟩ := List.nodup_cons.mp hn
    have hne : ∀ i ∈ as, i ≠ a := fun i hi h => ha (h ▸ hi)
    simp only [slotLoop, slotTick_spec]
    obtain ⟨tos, inc, ab, h1, h2, h3⟩ := ih has
      (cnt + if detectedAfter s.cfg.remoteTimeout (slotGet s.rxslot a) (slotGet s.timeouts a) then 1 else 0)
      { s with
         timeouts := slotSet s.timeouts a
           (counterAfter s.cfg.remoteTimeout (slotGet s.rxslot a) (slotGet s.timeouts a))
         incoming := slotSet s.incoming a
           (queueAfter s.cfg.queueCapacity s.cfg.remoteTimeout (a = own) (slotGet s.rxslot a)
             (slotGet s.timeouts a) (slotGet s.incoming a))
         absorbed := s.absorbed ++
           faultsAfter s.cfg.queueCapacity s.cfg.remoteTimeout (a = own) a (slotGet s.rxslot a)
             (slotGet s.timeouts a) (slotGet s.incoming a) }
    refine ⟨tos, inc, faultsAfter s.cfg.queueCapacity s.cfg.remoteTimeout (a = own) a (slotGet s.rxslot a)
      (slotGet s.timeouts a) (slotGet s.incoming a) ++ ab, ?_, ?_, ?_⟩
    · rw [h1]
      refine Prod.ext ?_ ?_
      · have : (as.filter fun i => detectedAfter s.cfg.remoteTimeout (slotGet s.rxslot i)
            (slotGet (slotSet s.timeouts a (counterAfter s.cfg.remoteTimeout (slotGet s.rxslot a)
              (slotGet s.timeouts a))) i)) =
            as.filter fun i => detectedAfter s.cfg.remoteTimeout (slotGet s.rxslot i) (slotGet s.timeouts i) := by
          apply List.filter_congr
          intro i hi
          rw [slotGet_slotSet_other _ _ _ _ (hne i hi)]
        simp only [this, List.filter_cons]
        split <;> simp
        omega
      · simp [List.append_assoc]
    · intro i
      rw [h2 i]
      by_cases hi : i ∈ as
      · simp [hi, slotGet_slotSet_other _ _ _ _ (hne i hi)]
      · by_cases hia : i = a
        · subst hia; simp [hi]
        · simp [hi, hia, slotGet_slotSet_other _ _ _ _ hia]
    · intro i
      rw [h3 i]
      by_cases hi : i ∈ as
      · simp [hi, slotGet_slotSet_other _ _ _ _ (hne i hi)]
      · by_cases hia : i = a
        · subst hia; simp [hi]
        · simp [hi, hia, slotGet_slotSet_other _ _ _ _ hia]

theorem mem_slotIds (i : SlotId) : i ∈ slotIds := by revert i; decide

/-- What the body of EV_SERIAL does before the reply (R207): the four counters and FIFOs as one tick leaves them, the
count of the detected slots, the id re-read. -/
theorem serialBody_spec (s : State) :
    ∃ tos inc ab,
      serialBody s = respond 0x0000 (secondaryReply
        { s with
          irqFlag := true
          irqTimeout := 0
          timeouts := tos
          incoming := inc
          absorbed := s.absorbed ++ ab
          playerCount := BitVec.ofNat 3 (slotIds.filter fun i =>
            detectedAfter s.cfg.remoteTimeout (slotGet s.rxslot i) (slotGet s.timeouts i)).length
          currentPlayerId := ctrlId s.ctrl }) ∧
      (∀ i, slotGet tos i = counterAfter s.cfg.remoteTimeout (slotGet s.rxslot i) (slotGet s.timeouts i)) ∧
      (∀ i, slotGet inc i = queueAfter s.cfg.queueCapacity s.cfg.remoteTimeout (i = s.currentPlayerId)
        (slotGet s.rxslot i) (slotGet s.timeouts i) (slotGet s.incoming i)) := by
  obtain ⟨tos, inc, ab, h1, h2, h3⟩ := slotLoop_spec s.currentPlayerId slotIds (by decide) 0
    { s with irqFlag := true, irqTimeout := 0 }
  refine ⟨tos, inc, ab, ?_, fun i => ?_, fun i => ?_⟩
  · unfold serialBody
    rw [h1]
    simp
  · simpa [mem_slotIds] using h2 i
  · simpa [mem_slotIds] using h3 i

end Sys2Proof.Machine
end

