-- ==== Sys2Proof/Tests/Slice0.lean ====
section
/-! SUPPORT. Own tests: the checks of WellFormed on ill-formed terms, words written out from the opcode map, one step per
instruction on a small state (expected results from spec/95_test_vectors.md, the vector named), and for every statement
with hypotheses a concrete state that meets them all. -/

namespace Sys2Proof.Tests

open Sys2Proof Sys2Proof.Machine

/-! ### Small states -/

/-- The default configuration with queues of three words. -/
def cfg3 : Config := { Config.default with queueCapacity := 3 }

/-- A canonical ring of three words that holds `xs`. -/
def ring (xs : List Word) : Ring := ⟨xs ++ List.replicate (3 - xs.length) 0, 0, xs.length⟩

/-- Power-on with queues of three words. -/
def base : State :=
  { State.reset with cfg := cfg3, incoming := ⟨ring [], ring [], ring [], ring []⟩, outgoing := ring [] }

/-- The fresh state of spec/95_test_vectors.md: right after ACTIVATE. -/
def fresh : State := activateState base

/-- What holds of the next state of an outcome. -/
def after (o : Host.Outcome State Fault Refusal) (p : State → Bool) : Bool :=
  match o with
  | .next t => p t
  | .fault _ => false
  | .refused _ => false

/-! ### WellFormed: every check refuses an ill-formed term -/

theorem test_wf_default : Config.default.legal = true := by decide
theorem test_wf_tick_threshold : ({ Config.default with tickThreshold := 255 } : Config).legal = false := by decide
theorem test_wf_remote_timeout_zero : ({ Config.default with remoteTimeout := 0 } : Config).legal = false := by decide
theorem test_wf_remote_timeout_255 : ({ Config.default with remoteTimeout := 255 } : Config).legal = false := by decide
theorem test_wf_queue_capacity_zero : ({ Config.default with queueCapacity := 0 } : Config).legal = false := by decide
theorem test_wf_queue_capacity_256 : ({ Config.default with queueCapacity := 256 } : Config).legal = false := by decide
theorem test_wf_timer_id : ({ Config.default with timerId := 4 } : Config).legal = false := by decide
theorem test_wf_modes : ({ Config.default with modeGp := 0 } : Config).legal = false := by decide
theorem test_wf_cfg_other : ({ Config.default with cfgOther := ⟨0x4000, 0x4001, 0x4082, 0x4003⟩ } : Config).legal = false := by
  decide
theorem test_wf_cfg_other_multi : ({ Config.default with cfgOther := ⟨0x6000, 0, 0, 0⟩ } : Config).legal = false := by decide
theorem test_wf_request_operands :
    (AsmRequest.mk .send none).wellFormed = false ∧ (AsmRequest.mk .send (some 65536)).wellFormed = false ∧
    (AsmRequest.mk .hasMessage none).wellFormed = false ∧ (AsmRequest.mk .hasMessage (some 4)).wellFormed = false ∧
    (AsmRequest.mk .readMessage none).wellFormed = false ∧ (AsmRequest.mk .readMessage (some 4)).wellFormed = false := by
  decide
theorem test_wf_request_no_operand :
    (AsmRequest.mk .nop (some 0)).wellFormed = false ∧ (AsmRequest.mk .activate (some 0)).wellFormed = false ∧
    (AsmRequest.mk .deactivate (some 0)).wellFormed = false ∧ (AsmRequest.mk .isConnected (some 0)).wellFormed = false ∧
    (AsmRequest.mk .evFrameSync (some 0)).wellFormed = false ∧ (AsmRequest.mk .evSerial (some 0)).wellFormed = false ∧
    (AsmRequest.mk .evTimer (some 0)).wellFormed = false := by
  decide
theorem test_wf_script_line : (ScriptLine.hold (AsmRequest.mk .send none)).wellFormed = false := by decide

/-! ### Decoding: words written out from R92, opcode then argument -/

theorem test_decode_nop : decode 0b0000_0000000000000000 = .ok .nop := by decide
theorem test_decode_activate : decode 0b0001_0000000000000000 = .ok .activate := by decide
theorem test_decode_deactivate : decode 0b0010_0000000000000000 = .ok .deactivate := by decide
theorem test_decode_send : decode 0b0011_1000000000000001 = .ok (.send 0x8001) := by decide
theorem test_decode_is_connected : decode 0b0100_0000000000000000 = .ok .isConnected := by decide
theorem test_decode_has_message : decode 0b0101_0000000000000010 = .ok (.hasMessage 2) := by decide
theorem test_decode_read_message : decode 0b0110_0000000000000001 = .ok (.readMessage 1) := by decide
theorem test_decode_ev_frame_sync : decode 0b1000_0000000000000000 = .ok .evFrameSync := by decide
theorem test_decode_ev_serial : decode 0b1001_0000000000000000 = .ok .evSerial := by decide
theorem test_decode_ev_timer : decode 0b1010_0000000000000000 = .ok .evTimer := by decide

/-- V7: the reserved words. -/
theorem test_decode_reserved :
    decode 0x70000 = .error (.opcode 7) ∧ decode 0xB0000 = .error (.opcode 0xB) ∧
    decode 0xF1234 = .error (.opcode 0xF) ∧ decode 0x00001 = .error (.argument 0 1) ∧
    decode 0x10001 = .error (.argument 1 1) ∧ decode 0x4FFFF = .error (.argument 4 0xFFFF) ∧
    decode 0x50004 = .error (.argument 5 4) ∧ decode 0x68000 = .error (.argument 6 0x8000) ∧
    decode 0x80001 = .error (.argument 8 1) ∧ decode 0xA0100 = .error (.argument 0xA 0x100) := by
  decide

theorem test_decode_table_word :
    decodeTableWord 24 0x31234 = some (.send 0x1234) ∧ decodeTableWord 24 0x70000 = none ∧
    decodeTableWord 24 0x100000 = none ∧ decodeTableWord 20 0x90000 = some .evSerial := by
  decide

/-- A word placed by `withFetchWord` is run by the very next step from reset: ACTIVATE leaves the block activated. -/
theorem test_fetch_word : after (step (State.reset.withFetchWord 24 0x10000)) (fun t => t.enabled && t.inputs = []) = true := by
  decide

/-- The example line of R108, as text. -/
theorem test_parse_env :
    parseScriptLine "ENV RXSLOT=[0x0001,0x0000,0xFFFF,0xFFFF] CTRL.ready=1 CTRL.error=0 CTRL.secondary=1 CTRL.id=1 CTRL.start=0".toList
      = some (.env { rxslot := some ⟨1, 0, 0xFFFF, 0xFFFF⟩, ready := some true, error := some false,
                     secondary := some true, id := some 1, start := some false }) := by
  decide

/-- From line 11 of P4, as text (spec/95_test_vectors.md). -/
theorem test_parse_expect :
    parseScriptLine "EXPECT incoming[1]=[] timeouts=[OFF,OFF,OFF,OFF] TXDATA=0x0000".toList
      = some (.expect [.field (.incoming 1) [], .field .timeouts [255, 255, 255, 255], .field .txdata [0]]) := by
  decide

/-- The trace of P6's device after DEACTIVATE ends so (spec/95_test_vectors.md). -/
theorem test_parse_expect_trace :
    parseScriptLine "EXPECT CTRL=0x6008 trace=[ExchangeStart(0x0001), TimerStop, TransportConfig(MODE_GP)]".toList
      = some (.expect [.field .ctrl [0x6008], .trace [.exchangeStart 1, .timerStop, .transportConfig .gp]]) := by
  decide

/-- Lines of P1, as text; a device without a name is none. -/
theorem test_parse_link :
    parseLinkLine [("P", 0), ("S", 1)] "XCHG                   ; words".toList = some .xchg ∧
    parseLinkLine [("P", 0), ("S", 1)] "S: READ_MESSAGE 0      ; 0x60000".toList
      = some (.device 1 (.request ⟨.readMessage, some 0⟩)) ∧
    parseLinkLine [("P", 0)] "S: RETIRE".toList = none := by
  decide

/-! ### The ring (V21 to V23) -/

theorem test_push_full_v21 :
    fifoPush 3 ⟨[20, 30, 10], 2, 3⟩ 40 = ⟨[20, 30, 40], 0, 3⟩ ∧ ringAbs 3 (fifoPush 3 ⟨[20, 30, 10], 2, 3⟩ 40) = [20, 30, 40] := by
  decide
theorem test_push_room_v22 :
    ringAbs 3 (fifoPush 3 ⟨[20, 0, 10], 2, 2⟩ 30) = [10, 20, 30] := by decide
theorem test_pop_v23 : fifoPop 3 ⟨[0, 0, 10], 2, 1⟩ = (10, ⟨[0, 0, 10], 0, 0⟩) := by decide

/-! ### One step of each instruction -/

/-- V44. -/
theorem test_nop_in_window :
    after (exec .nop { fresh with locked := true, resp := 7 }) (fun t => t.locked && t.resp = 0) = true := by decide

/-- V48, with V8. -/
theorem test_activate_v48 :
    after (exec .activate { base with ctrl := 0xFFFF, mode := 0xFFFF, txdata := 0x1234 })
      (fun t => t.ctrl &&& 0xFF83 = 0x6000 && t.mode &&& 0xC000 = 0 && t.txdata = 0 && t.tmrReload = 50 && t.tmrIrqEn &&
        t.enabled && t.trace = [.transportConfig 0, .timerStart]) = true := by decide

/-- V45: ACTIVATE inside a window. -/
theorem test_activate_v45 :
    after (exec .activate { fresh with locked := true, outgoing := ring [8] })
      (fun t => outbox t = [] && !t.locked && t.enabled && t.trace.length = 4) = true := by decide

/-- V49. -/
theorem test_deactivate_v49 :
    after (exec .deactivate { fresh with outgoing := ring [4, 5], playerCount := 2, irqTimeout := 2, txdata := 0x55 })
      (fun t => !t.enabled && outbox t = [] && t.playerCount = 0 && t.irqTimeout = 0 && t.mode &&& 0xC000 = 0x8000 &&
        t.txdata = 0x55 && !t.tmrEn && t.ctrl = fresh.ctrl) = true := by decide

/-- V34. -/
theorem test_send_v34 :
    after (exec (.send 4) { fresh with outgoing := ring [1, 2, 3] })
      (fun t => outbox t = [2, 3, 4] && t.resp = 0 && t.absorbed = [.overflow]) = true := by decide

/-- V33: the neighbours of the sentinels are queued. -/
theorem test_send_v33 :
    after (exec (.send 0xFFFE) { fresh with outgoing := ring [5, 1] }) (fun t => outbox t = [5, 1, 0xFFFE]) = true := by
  decide

/-- V40, the rows of 2, 3 and 4 players: the answer for ids 0 to 3. -/
theorem test_is_connected_v40 :
    ([0, 1, 2, 3] : List SlotId).map (fun p =>
      ([1, 2, 3, 4] : List (BitVec 3)).map fun n =>
        after (exec .isConnected { fresh with playerCount := n, currentPlayerId := p }) (fun t => t.resp = 1)) =
    [[false, true, true, true], [false, true, true, true], [false, false, true, true], [false, false, false, true]] := by
  decide

/-- V36. -/
theorem test_has_message_v36 :
    after (exec (.hasMessage 2) { fresh with incoming := ⟨ring [], ring [], ring [7], ring []⟩ }) (fun t => t.resp = 1) &&
    after (exec (.hasMessage 1) { fresh with incoming := ⟨ring [], ring [], ring [7], ring []⟩ }) (fun t => t.resp = 0) =
      true := by decide

/-- V35, the first read. -/
theorem test_read_message_v35 :
    after (exec (.readMessage 0) { fresh with incoming := ⟨ring [1, 2], ring [], ring [], ring []⟩ })
      (fun t => t.resp = 1 && inbox t 0 = [2]) = true := by decide

/-- V38: skipped inside a window. -/
theorem test_read_message_v38 :
    after (exec (.readMessage 0) { fresh with locked := true, incoming := ⟨ring [9], ring [], ring [], ring []⟩ })
      (fun t => t.resp = 0 && inbox t 0 = [9]) = true := by decide

/-- V54 and V57. -/
theorem test_frame_sync_v54 :
    after (exec .evFrameSync { fresh with irqTimeout := 2 }) (fun t => t.irqTimeout = 3 && !t.irqFlag) &&
    after (exec .evFrameSync { fresh with irqTimeout := 255 }) (fun t => t.irqTimeout = 255) = true := by decide

/-- V56. -/
theorem test_frame_sync_v56 :
    after (exec .evFrameSync { fresh with irqFlag := true, irqTimeout := 2 }) (fun t => t.irqTimeout = 2 && !t.irqFlag) =
      true := by decide

/-- V67: the own-slot test uses the id held before the tick. -/
theorem test_serial_v67 :
    after (exec .evSerial { fresh with
        currentPlayerId := 1, rxslot := ⟨5, 6, 7, 0xFFFF⟩, ctrl := setCtrlId 2 fresh.ctrl })
      (fun t => inbox t 0 = [5] && inbox t 1 = [] && inbox t 2 = [7] && t.currentPlayerId = 2 && t.playerCount = 3) =
      true := by decide

/-- V62: eviction at the threshold. -/
theorem test_serial_v62 :
    after (exec .evSerial { fresh with
        timeouts := ⟨.offline, .live 4, .offline, .offline⟩, incoming := ⟨ring [], ring [8, 9], ring [], ring []⟩,
        rxslot := ⟨0, 0xFFFF, 0xFFFF, 0xFFFF⟩ })
      (fun t => t.timeouts.s1 = .offline && inbox t 1 = [] && t.playerCount = 1 && t.absorbed = [.peerTimeout 1]) =
      true := by decide

/-- V71, with V10. -/
theorem test_timer_v71 :
    after (exec .evTimer { fresh with ctrl := setCtrlReady true fresh.ctrl, outgoing := ring [1, 2] })
      (fun t => t.txdata = 1 && t.ctrl = 0x6088 && outbox t = [2] && t.trace = fresh.trace ++ [.exchangeStart 1]) =
      true := by decide

/-- V77: the forced reset at the first count above the threshold. -/
theorem test_timer_v77 :
    after (exec .evTimer { fresh with irqTimeout := 4, playerCount := 2, outgoing := ring [9], ctrl := 0x6088, txdata := 5 })
      (fun t => t.enabled && t.locked && t.playerCount = 0 && outbox t = [] && !ctrlStart t.ctrl && t.txdata = 0 &&
        t.irqTimeout = 0 && t.trace = fresh.trace ++ [.transportConfig 0, .timerStart]) = true := by decide

/-! ### Witnesses: for every statement with hypotheses, a state and operands that meet them all -/

/-- Activated, unlocked, a secondary's queues partly filled: slot 0 live with two messages, slot 1 at its last miss. -/
def busy : State :=
  { fresh with
    playerCount := 3, currentPlayerId := 2
    incoming := ⟨ring [8, 9], ring [7], ring [], ring [1, 2, 3]⟩
    outgoing := ring [4, 5]
    timeouts := ⟨.live 0, .live 4, .offline, .live 3⟩ }

theorem noSentinel_of {q : List Word} (h : q.all isRealValue = true) : NoSentinel q := List.all_eq_true.mp h

theorem storageInv_fresh : StorageInv fresh := by
  refine ⟨by decide, by decide, ⟨?_, ?_⟩, ?_, by decide, rfl⟩
  · intro i; rcases slotId_cases i with rfl | rfl | rfl | rfl <;> exact noSentinel_of (by decide)
  · exact noSentinel_of (by decide)
  · intro i; rcases slotId_cases i with rfl | rfl | rfl | rfl <;> trivial

theorem storageInv_busy : StorageInv busy := by
  refine ⟨by decide, by decide, ⟨?_, ?_⟩, ?_, by decide, rfl⟩
  · intro i; rcases slotId_cases i with rfl | rfl | rfl | rfl <;> exact noSentinel_of (by decide)
  · exact noSentinel_of (by decide)
  · intro i
    rcases slotId_cases i with rfl | rfl | rfl | rfl
    · show 0 < 5; decide
    · show 4 < 5; decide
    · trivial
    · show 3 < 5; decide

theorem sessionInv_busy : SessionInv busy := by
  refine ⟨by decide, (fun h => by cases h), fun _ => ?_, ?_, by decide⟩
  · constructor <;> decide
  · intro i; rcases slotId_cases i with rfl | rfl | rfl | rfl <;> intro h <;> first | rfl | cases h

theorem witness_EncodeInvertsDecode : decode 0x50003 = .ok (.hasMessage 3) := by decide

theorem witness_DecodeReadsOpcodeAndArgument :
    (0x7FFFF : ReqWord).extractLsb' 16 4 = 0x7 ∧ 0xB ≤ (0xB0000 : ReqWord).extractLsb' 16 4 ∧
    (0x3FFFF : ReqWord).extractLsb' 16 4 = 0x3 ∧ (0x50004 : ReqWord).extractLsb' 16 4 = 0x5 ∧
    (0x60003 : ReqWord).extractLsb' 16 4 = 0x6 ∧ (0x00000 : ReqWord).extractLsb' 16 4 = 0x0 ∧
    (0x10001 : ReqWord).extractLsb' 16 4 = 0x1 ∧ (0x20000 : ReqWord).extractLsb' 16 4 = 0x2 ∧
    (0x4FFFF : ReqWord).extractLsb' 16 4 = 0x4 ∧ (0x80000 : ReqWord).extractLsb' 16 4 = 0x8 ∧
    (0x90000 : ReqWord).extractLsb' 16 4 = 0x9 ∧ (0xA0100 : ReqWord).extractLsb' 16 4 = 0xA := by decide

theorem witness_TimeoutByteRoundTrip :
    0xFE ≤ 0xFE ∧ (0xFE : BitVec 8) ≠ 0xFF ∧ 254 ≤ 254 ∧ timeoutInRange 254 (.live 253) :=
  ⟨by decide, by decide, by decide, show 253 < 254 by decide⟩

theorem witness_StepRunsDecodedInstruction :
    fresh.cfg.legal = true ∧ ({ fresh with inputs := [.req 0x30005, .retire] } : State).inputs = .req 0x30005 :: [.retire] ∧
    decode 0x30005 = .ok (.send 5) := by decide

/-- One word for each of the three ways a word is reserved. -/
theorem witness_ReservedWordDoesNothing :
    fresh.cfg.legal = true ∧ ({ fresh with inputs := [.req 0xB0000] } : State).inputs = .req 0xB0000 :: [] ∧
    0xB ≤ (0xB0000 : ReqWord).extractLsb' 16 4 ∧
    ((0xA0100 : ReqWord).extractLsb' 16 4 ∈ [0x0#4, 0x1#4, 0x2#4, 0x4#4, 0x8#4, 0x9#4, 0xA#4] ∧
      (0xA0100 : ReqWord).extractLsb' 0 16 ≠ 0) ∧
    ((0x50004 : ReqWord).extractLsb' 16 4 ∈ [0x5#4, 0x6#4] ∧ (0x50004 : ReqWord).extractLsb' 2 14 ≠ 0) := by decide

/-- A busy session inside a window, and a block that is not activated. -/
theorem witness_SkippedRequestDoesNothing :
    Guarded (.readMessage 0) ∧ ({ busy with locked := true } : State).locked = true ∧
    Guarded .evSerial ∧ base.enabled = false := ⟨trivial, rfl, trivial, rfl⟩

theorem witness_IssueOpensLockWindow :
    Guarded .evTimer ∧ busy.locked = false ∧ busy.enabled = true := ⟨trivial, rfl, rfl⟩

theorem witness_RetireEndsWindow :
    busy.cfg.legal = true ∧ ({ busy with locked := true, inputs := [.retire] } : State).inputs = .retire :: [] ∧
    ({ busy with locked := true, inputs := [.retire] } : State).locked = true := by decide

/-- A window in which an event, NOP, a reserved word and an environment step arrive. -/
theorem witness_LockWindowDropsEverything :
    ({ busy with locked := true } : State).locked = true ∧ busy.enabled = true ∧
    ∀ l ∈ ([.req 0x90000, .req 0x00000, .req 0x70000, .env { start := some true }] : List StepLabel), KeepsWindow l := by
  refine ⟨rfl, rfl, ?_⟩
  intro l hl
  simp only [List.mem_cons, List.not_mem_nil, or_false] at hl
  rcases hl with rfl | rfl | rfl | rfl
  · exact ⟨by decide, by decide⟩
  · exact ⟨by decide, by decide⟩
  · exact ⟨by decide, by decide⟩
  · trivial

/-- A SEND and all three strobes at one moment, served in another order. -/
theorem witness_SimultaneousArrivalServesFirst :
    IsServiceOrder ⟨some 0x30005, true, true, true⟩ [0xA0000, 0x30005, 0x90000, 0x80000] ∧ guardPasses busy = true ∧
    ∀ v ∈ ([0xA0000, 0x30005, 0x90000, 0x80000] : List ReqWord), ∃ i, decode v = .ok i ∧ Guarded i := by
  refine ⟨by unfold IsServiceOrder; decide, rfl, ?_⟩
  intro v hv
  simp only [List.mem_cons, List.not_mem_nil, or_false] at hv
  rcases hv with rfl | rfl | rfl | rfl
  · exact ⟨.evTimer, by decide, trivial⟩
  · exact ⟨.send 5, by decide, trivial⟩
  · exact ⟨.evSerial, by decide, trivial⟩
  · exact ⟨.evFrameSync, by decide, trivial⟩

theorem witness_StepNeverFaults : busy.cfg.legal = true := by decide

/-- One configuration outside each bound, just past it. -/
theorem witness_IllegalConfigurationRefused :
    254 < ({ Config.default with tickThreshold := 255 } : Config).tickThreshold ∧
    ({ Config.default with remoteTimeout := 0 } : Config).remoteTimeout = 0 ∧
    254 < ({ Config.default with remoteTimeout := 255 } : Config).remoteTimeout ∧
    ({ Config.default with queueCapacity := 0 } : Config).queueCapacity = 0 ∧
    255 < ({ Config.default with queueCapacity := 256 } : Config).queueCapacity ∧
    ({ Config.default with timerId := 4 } : Config).nTimers ≤ ({ Config.default with timerId := 4 } : Config).timerId := by
  decide

theorem witness_RunPresentsWaitingLabels :
    fresh.cfg.legal = true ∧
    ({ fresh with inputs := [.req 0x30005, .retire, .rst] } : State).inputs = [.req 0x30005, .retire] ++ [.rst] ∧
    ∃ t, presentLabels [.req 0x30005, .retire] { fresh with inputs := [.rst] } = .next t := ⟨by decide, rfl, _, rfl⟩

theorem witness_NopDoesNothing : decode 0x70000 = .error (.opcode 7) := by decide

theorem witness_ActivateResult : busy.cfg.legal = true := by decide

theorem witness_LifecycleRequestsIdempotent :
    (Instr.deactivate = .activate ∨ Instr.deactivate = .deactivate ∨ Instr.deactivate = .nop) := by decide

/-- A busy session and the power-on state differ in everything ACTIVATE resets. -/
theorem witness_ActivateForgetsThePast :
    base.cfg.legal = true ∧ busy.cfg = base.cfg ∧ busy.tmrSel = base.tmrSel ∧ SameTransportOwned base busy ∧
    busy.mode &&& 0x3FFF = base.mode &&& 0x3FFF :=
  ⟨by decide, rfl, rfl, by constructor <;> decide, by decide⟩

theorem witness_HardwareResetResult :
    busy.cfg.legal = true ∧ ({ busy with inputs := [.rst] } : State).inputs = .rst :: [] := by decide

theorem witness_ResetStateValues :
    busy.cfg.legal = true ∧ ({ busy with inputs := [.rst] } : State).inputs = .rst :: [] := by decide

theorem witness_FrameSyncResult : busy.locked = false ∧ busy.enabled = true := by decide

/-- Every row of the table of R208 at one state or another, the last miss and the last but one among them. -/
theorem witness_SerialTickSlotTable :
    let s : State := { busy with rxslot := ⟨0x22, 0xFFFF, 0xFFFF, 0xFFFF⟩ }
    let u : State := { busy with rxslot := ⟨0x0000, 0x0000, 0x0000, 0xFFFE⟩ }
    s.locked = false ∧ s.enabled = true ∧ RingsWf s ∧ RingsWf u ∧
    (slotGet s.rxslot 2 = 0xFFFF ∧ slotGet s.timeouts 2 = .offline) ∧
    (slotGet s.rxslot 3 = 0xFFFF ∧ slotGet s.timeouts 3 = .live 3 ∧ 3 + 1 < s.cfg.remoteTimeout) ∧
    (slotGet s.rxslot 1 = 0xFFFF ∧ slotGet s.timeouts 1 = .live 4 ∧ s.cfg.remoteTimeout ≤ 4 + 1) ∧
    slotGet u.rxslot 1 = 0x0000 ∧
    (slotGet u.rxslot 3 ≠ 0xFFFF ∧ slotGet u.rxslot 3 ≠ 0x0000 ∧ (3 : SlotId) ≠ u.currentPlayerId) ∧
    (2 : SlotId) = busy.currentPlayerId := by decide

theorem witness_SerialTickCountsDetectedSlots : busy.locked = false ∧ busy.enabled = true := by decide

theorem witness_SerialTickRereadsId : busy.locked = false ∧ busy.enabled = true := by decide

theorem witness_SecondaryRepliesAtSerialTick :
    let s : State := { busy with ctrl := setCtrlSecondary true busy.ctrl }
    s.locked = false ∧ s.enabled = true ∧ RingsWf s ∧ ctrlSecondary s.ctrl = true ∧
    RingsWf busy ∧ ctrlSecondary busy.ctrl = false := by decide

theorem witness_SlotOrderDoesNotMatter : ([2, 0, 3, 1] : List SlotId).Perm [0, 1, 2, 3] := by decide

/-- The transport's error, and the first count above the threshold. -/
theorem witness_TimerTickForcesReset :
    let s : State := { busy with ctrl := setCtrlReady true (setCtrlError true busy.ctrl) }
    let u : State := { busy with irqTimeout := 4 }
    s.cfg.legal = true ∧ s.locked = false ∧ s.enabled = true ∧
    (ctrlReady s.ctrl = true ∧ ctrlError s.ctrl = true) ∧ u.cfg.tickThreshold < u.irqTimeout.toNat := by decide

/-- At the threshold itself. -/
theorem witness_PrimarySendsAtTimerTick :
    let s : State := { busy with ctrl := setCtrlReady true busy.ctrl, irqTimeout := 3 }
    s.locked = false ∧ s.enabled = true ∧ RingsWf s ∧ ¬(ctrlReady s.ctrl = true ∧ ctrlError s.ctrl = true) ∧
    s.irqTimeout.toNat ≤ s.cfg.tickThreshold ∧ ctrlSecondary s.ctrl = false ∧ ctrlReady s.ctrl = true ∧
    ctrlStart s.ctrl = false := by decide

/-- A secondary, a primary not ready, and a primary mid-transfer. -/
theorem witness_TimerTickIdles :
    let a : State := { busy with ctrl := setCtrlReady true (setCtrlSecondary true busy.ctrl), irqTimeout := 3 }
    let c : State := { busy with ctrl := setCtrlReady true (setCtrlStart true busy.ctrl) }
    a.locked = false ∧ a.enabled = true ∧ ¬(ctrlReady a.ctrl = true ∧ ctrlError a.ctrl = true) ∧
    ¬(ctrlReady c.ctrl = true ∧ ctrlError c.ctrl = true) ∧ a.irqTimeout.toNat ≤ a.cfg.tickThreshold ∧
    ctrlSecondary a.ctrl = true ∧ ctrlReady busy.ctrl = false ∧ ctrlStart c.ctrl = true := by decide

theorem witness_SendQueuesRealValue :
    busy.locked = false ∧ busy.enabled = true ∧ RingsWf busy ∧ (0xFFFE : Word) ≠ 0xFFFF ∧ (0xFFFE : Word) ≠ 0x0000 := by
  decide

theorem witness_SendDropsSentinel :
    busy.locked = false ∧ busy.enabled = true ∧ ((0xFFFF : Word) = 0xFFFF ∨ (0xFFFF : Word) = 0x0000) := by decide

theorem witness_IsConnectedAnswer : busy.locked = false ∧ busy.enabled = true := by decide

theorem witness_HasMessageAnswer : busy.locked = false ∧ busy.enabled = true := by decide

theorem witness_ReadMessageResult :
    busy.locked = false ∧ busy.enabled = true ∧ RingsWf busy ∧ QueuesReal busy ∧ inbox busy 2 = [] ∧ inbox busy 0 ≠ [] ∧
    (3 : SlotId) ≠ 0 := ⟨rfl, rfl, storageInv_busy.rings, storageInv_busy.real, by decide, by decide, by decide⟩

/-- More values than the queue holds. -/
theorem witness_SendsKeepMostRecent :
    StorageInv fresh ∧ fresh.locked = false ∧ fresh.enabled = true ∧ outbox fresh = [] ∧
    NoSentinel [1, 2, 3, 0xFFFE] :=
  ⟨storageInv_fresh, rfl, rfl, rfl, noSentinel_of (by decide)⟩

theorem witness_ReadsDrainInOrder :
    2 < (inbox busy 3).length ∧ StorageInv busy ∧ busy.locked = false ∧ busy.enabled = true :=
  ⟨by decide, storageInv_busy, rfl, rfl⟩

/-- A ring whose words wrap around the end of the storage. -/
theorem witness_RingRefinesQueue : ringWf 3 ⟨[20, 30, 10], 2, 3⟩ = true := by decide

theorem witness_PoppedWordsKeepPushOrder :
    ringWf 1 ⟨[0], 0, 0⟩ = true ∧ ringAbs 1 ⟨[0], 0, 0⟩ = [] ∧
    NoSentinel (pushedWords [.push 1, .pop, .push 2, .push 3, .clear, .push 4, .pop, .pop]) :=
  ⟨by decide, by decide, noSentinel_of (by decide)⟩

theorem witness_PushesKeepMostRecent : ringWf 3 ⟨[20, 30, 10], 2, 0⟩ = true ∧ ringAbs 3 ⟨[20, 30, 10], 2, 0⟩ = [] := by
  decide

theorem witness_StepKeepsStorage :
    StorageInv { busy with inputs := [.req 0x90000] } ∧ ∃ t, step { busy with inputs := [.req 0x90000] } = .next t :=
  ⟨⟨storageInv_busy.legal, storageInv_busy.rings, storageInv_busy.real, storageInv_busy.counters,
    storageInv_busy.players, rfl⟩, _, rfl⟩

theorem witness_StepKeepsSession :
    StorageInv { busy with inputs := [.req 0x90000] } ∧ SessionInv { busy with inputs := [.req 0x90000] } ∧
    ∃ t, step { busy with inputs := [.req 0x90000] } = .next t :=
  ⟨witness_StepKeepsStorage.1, ⟨sessionInv_busy.lockedEnabled, (fun h => by cases h),
    fun h => ⟨(sessionInv_busy.active h).sel, (sessionInv_busy.active h).multi, (sessionInv_busy.active h).other,
      (sessionInv_busy.active h).reload, (sessionInv_busy.active h).timerOn, (sessionInv_busy.active h).timerIrq⟩,
    sessionInv_busy.offlineEmpty, sessionInv_busy.fresh⟩, _, rfl⟩

theorem witness_OnlyActivateLeavesInactive :
    sessionTag { base with inputs := [.req 0x10000] } = .inactive ∧
    ∃ t, step { base with inputs := [.req 0x10000] } = .next t ∧ sessionTag t ≠ .inactive :=
  ⟨rfl, _, rfl, by decide⟩

theorem witness_ConfigurationNeverChanges : ∃ t, step { busy with inputs := [.req 0xA0000] } = .next t := ⟨_, rfl⟩

theorem witness_BlockNeverWritesTransportOwned :
    (∃ t, step { busy with inputs := [.req 0xA0000] } = .next t) ∧
    ∀ u, nextLabel { busy with inputs := [.req 0xA0000] } ≠ .env u := ⟨⟨_, rfl⟩, fun _ h => by cases h⟩

theorem witness_InactiveRequestsChangeNothing :
    base.cfg.legal = true ∧ base.enabled = false ∧ nextLabel { base with inputs := [.req 0x90000] } = .req 0x90000 ∧
    (0x90000 : ReqWord) ≠ 0x10000 ∧ (0x90000 : ReqWord) ≠ 0x20000 := by decide

theorem witness_EnvironmentStepResult :
    busy.cfg.legal = true ∧
    ({ busy with inputs := [.env { id := some 3 }] } : State).inputs = .env { id := some 3 } :: [] := by decide

theorem witness_ExternalStepResult :
    base.cfg.legal = true ∧
    ({ base with inputs := [.ext { mode := some 0x8000 }] } : State).inputs = .ext { mode := some 0x8000 } :: [] ∧
    base.enabled = false ∧
    ({ busy with inputs := [.ext {}] } : State).inputs = .ext {} :: [] ∧ busy.enabled = true := by decide

theorem witness_StallForcesReset :
    StorageInv fresh ∧ fresh.locked = false ∧ fresh.enabled = true ∧ fresh.irqFlag = false ∧ fresh.irqTimeout = 0 ∧
    ¬(ctrlReady fresh.ctrl = true ∧ ctrlError fresh.ctrl = true) :=
  ⟨storageInv_fresh, rfl, rfl, rfl, rfl, by decide⟩

theorem witness_EvictionAfterRemoteTimeout :
    let s : State := { busy with rxslot := ⟨0xFFFF, 0, 0, 0⟩ }
    StorageInv s ∧ s.locked = false ∧ s.enabled = true ∧ slotGet s.timeouts 0 = .live 0 ∧ slotGet s.rxslot 0 = 0xFFFF ∧
    4 < s.cfg.remoteTimeout :=
  ⟨⟨storageInv_busy.legal, storageInv_busy.rings, storageInv_busy.real, storageInv_busy.counters,
    storageInv_busy.players, rfl⟩, rfl, rfl, rfl, rfl, by decide⟩

/-- A primary with a transfer started and two values queued. -/
def primary : Device := ⟨0, { busy with ctrl := setCtrlReady true (setCtrlStart true busy.ctrl), txdata := 6 }⟩

/-- A primary ready to send, with two values queued. -/
def sender : Device := ⟨0, { busy with ctrl := setCtrlReady true busy.ctrl }⟩

/-- A secondary in slot 2. -/
def secondary : Device :=
  ⟨2, { fresh with ctrl := setCtrlSecondary true (setCtrlId 2 fresh.ctrl), currentPlayerId := 2 }⟩

theorem witness_ExchangeDeliversWords : ∃ ds', exchange [primary, secondary] = some ds' := ⟨_, rfl⟩

theorem witness_QueuedValuesAreDeliveredInOrder :
    sender.id = 0 ∧ secondary.id ≠ 0 ∧ StorageInv sender.state ∧ StorageInv secondary.state ∧
    guardPasses sender.state = true ∧ guardPasses secondary.state = true ∧ ctrlSecondary sender.state.ctrl = false ∧
    ctrlReady sender.state.ctrl = true ∧ ctrlError sender.state.ctrl = false ∧ ctrlStart sender.state.ctrl = false ∧
    stallReported sender.state = false ∧ secondary.state.currentPlayerId = secondary.id ∧
    inbox secondary.state 0 = [] ∧ outbox sender.state = [4, 5] :=
  ⟨rfl, by decide,
    ⟨storageInv_busy.legal, storageInv_busy.rings, storageInv_busy.real, storageInv_busy.counters,
      storageInv_busy.players, rfl⟩,
    ⟨storageInv_fresh.legal, storageInv_fresh.rings, storageInv_fresh.real, storageInv_fresh.counters,
      storageInv_fresh.players, rfl⟩,
    by decide, by decide, by decide, by decide, by decide, by decide, by decide, by decide, by decide, by decide⟩

/-- The delivery of R242 on these two devices, one step of it: the first round answers the first value. -/
theorem test_delivery_round : (deliveryRound 2 [sender, secondary]).map Prod.fst = some 4 := by decide

/-- A line for a device that is not there has no result (log 23). -/
theorem test_absent_device : runLinkLine (.device 3 (.expect [])) [sender, secondary] = none := by decide

/-! ### Fair runs exist -/

/-- Labels: ACTIVATE, EV_FRAME_SYNC, NOP inside its window, RETIRE, then NOP for ever. -/
def fairLabels : Nat → StepLabel
  | 0 => .req 0x10000
  | 1 => .req 0x80000
  | 2 => .req 0x00000
  | 3 => .retire
  | _ + 4 => .req 0x00000

/-- The states of that run: power-on, fresh, two states inside the window, then one state for ever. -/
def fairStates : Nat → State
  | 0 => base
  | 1 => fresh
  | 2 => { fresh with locked := true, irqTimeout := 1 }
  | 3 => { fresh with locked := true, irqTimeout := 1 }
  | _ + 4 => { fresh with irqTimeout := 1 }

/-- A fair infinite run from a power-on state, with a lock window in it (R76, R176). -/
theorem witness_FairRunFromPowerOn :
    FairRunFromPowerOn fairLabels fairStates ∧ (fairStates 2).locked = true := by
  refine ⟨⟨⟨by decide, by decide, ?_⟩, ?_, ?_⟩, rfl⟩
  · refine ⟨rfl, rfl, ⟨rfl, rfl, ?_, rfl, ?_, rfl, rfl⟩, ?_, rfl, rfl, rfl, rfl, rfl⟩ <;>
      intro i <;> rcases slotId_cases i with rfl | rfl | rfl | rfl <;> rfl
  · intro k
    match k with
    | 0 => exact ⟨rfl, rfl⟩
    | 1 => exact ⟨rfl, rfl⟩
    | 2 => exact ⟨rfl, rfl⟩
    | 3 => exact ⟨rfl, rfl⟩
    | _ + 4 => exact ⟨rfl, rfl⟩
  · intro k
    exact ⟨k + 4, Nat.le_add_right k 4, .inl rfl⟩

/-- RETIRE outside a window is no step of a run, and neither is EXT while activated. -/
theorem test_labels_not_enabled :
    labelEnabled .retire fresh = false ∧ labelEnabled (.ext {}) fresh = false ∧ labelEnabled (.ext {}) base = true := by
  decide

end Sys2Proof.Tests
end

section
/-! What a request does as a function of the state, what a step can do, and what no body of a guarded
request changes. -/

namespace Sys2Proof.Machine

/-! ### A request as a function of the state -/

/-- The body a guarded operation runs behind the guard (spec/42_sync_mux.md R160); the three
unguarded ones have none. -/
def guardedBody : Instr → State → State
  | .send v => sendBody v
  | .isConnected => isConnectedBody
  | .hasMessage p => hasMessageBody p
  | .readMessage p => readMessageBody p
  | .evFrameSync => frameSyncBody
  | .evSerial => serialBody
  | .evTimer => timerBody
  | .nop => id
  | .activate => id
  | .deactivate => id

/-- The state an operation leaves: every operation has one, in every state (spec/42_sync_mux.md R176). -/
def requestState : Instr → State → State
  | .nop => respond 0x0000
  | .activate => activateState
  | .deactivate => deactivateState
  | i => issue (guardedBody i)

theorem exec_eq_next (i : Instr) (s : State) : exec i s = .next (requestState i s) := by
  cases i <;> rfl

/-- A property that holds after the three unguarded operations and after every guarded one holds after them all. -/
theorem requestState_cases {P : Instr → State → Prop} {s : State} (nop : P .nop (respond 0x0000 s))
    (activate : P .activate (activateState s)) (deactivate : P .deactivate (deactivateState s))
    (guarded : ∀ i, Guarded i → P i (issue (guardedBody i) s)) (i : Instr) : P i (requestState i s) := by
  cases i with
  | nop => exact nop
  | activate => exact activate
  | deactivate => exact deactivate
  | send | isConnected | hasMessage | readMessage | evFrameSync | evSerial | evTimer => exact guarded _ trivial

/-! ### The bodies with branches, one case each -/

/-- SEND drops a sentinel and queues a real value (spec/45_app_operations.md R237). -/
theorem sendBody_cases (v : Word) (s : State) :
    (isSentinel v = true ∧ sendBody v s = respond 0x0000 (absorb .sentinelSend s)) ∨
    (isRealValue v = true ∧ sendBody v s = respond 0x0000 (pushOutgoing v s)) := by
  cases hv : isSentinel v <;> simp [sendBody, isRealValue, hv]

/-- EV_TIMER forces a reset, or sends, or idles (spec/44_event_handlers.md R215). -/
theorem timerBody_cases (s : State) :
    (resetNeeded s = true ∧ ∃ ab, timerBody s = respond 0x0000 (forcedReset { s with absorbed := ab })) ∨
    (resetNeeded s = false ∧ sendNow s = true ∧
      timerBody s = respond 0x0000 (startExchange (nextOut s).1 (nextOut s).2)) ∨
    (resetNeeded s = false ∧ sendNow s = false ∧ timerBody s = respond 0x0000 s) := by
  have absorbIf_eq (b : Bool) (f : AbsorbedFault) (u : State) :
      ∃ ab, absorbIf b f u = { u with absorbed := ab } := by
    cases b
    · exact ⟨u.absorbed, rfl⟩
    · exact ⟨_, rfl⟩
  cases hr : resetNeeded s with
  | true =>
    obtain ⟨ab, h1⟩ := absorbIf_eq (transportErrorReported s) .transportError s
    obtain ⟨ab', h2⟩ := absorbIf_eq (stallReported s) .stall { s with absorbed := ab }
    exact .inl ⟨rfl, ab', by simp [timerBody, hr, h1, h2]⟩
  | false => cases hn : sendNow s <;> simp [timerBody, hr, hn]

/-- A secondary loads the oldest word of `outgoing` as its reply, a primary does nothing
(spec/44_event_handlers.md R212). -/
theorem secondaryReply_cases (s : State) :
    (isSecondary s = true ∧ secondaryReply s = loadReply (nextOut s).1 (nextOut s).2) ∨
    (isSecondary s = false ∧ secondaryReply s = s) := by
  cases hs : isSecondary s <;> simp [secondaryReply, hs]

/-! ### What no body changes -/

/-- The transport-owned fields are bits of `RXSLOT` and `CTRL`. -/
theorem SameTransportOwned.of_registers {s t : State} (hr : t.rxslot = s.rxslot) (hc : t.ctrl = s.ctrl) :
    SameTransportOwned s t := by
  constructor <;> simp only [hr, hc]

theorem SameTransportOwned.trans {s t u : State} (h : SameTransportOwned s t) (k : SameTransportOwned t u) :
    SameTransportOwned s u :=
  ⟨k.rxslot.trans h.rxslot, k.secondary.trans h.secondary, k.ready.trans h.ready, k.id.trans h.id,
    k.error.trans h.error⟩

/-- What the body of a guarded operation leaves as it was: the configuration, the two flags of the guard, `TMR_SEL` and
the transport-owned fields (spec/10_state.md R34, R38; spec/42_sync_mux.md R161, R173). -/
structure BodyFrame (s t : State) : Prop where
  cfg : t.cfg = s.cfg
  enabled : t.enabled = s.enabled
  locked : t.locked = s.locked
  tmrSel : t.tmrSel = s.tmrSel
  transport : SameTransportOwned s t

theorem BodyFrame.trans {s t u : State} (h : BodyFrame s t) (k : BodyFrame t u) : BodyFrame s u :=
  ⟨k.cfg.trans h.cfg, k.enabled.trans h.enabled, k.locked.trans h.locked, k.tmrSel.trans h.tmrSel,
    h.transport.trans k.transport⟩

theorem bodyFrame_respond (v : Word) (s : State) : BodyFrame s (respond v s) :=
  ⟨rfl, rfl, rfl, rfl, .of_registers rfl rfl⟩

theorem bodyFrame_sendBody (v : Word) (s : State) : BodyFrame s (sendBody v s) := by
  rcases sendBody_cases v s with ⟨-, h⟩ | ⟨-, h⟩ <;> rw [h]
  · exact ⟨rfl, rfl, rfl, rfl, .of_registers rfl rfl⟩
  · exact ⟨by simp, by simp, by simp, by simp, .of_registers (by simp) (by simp)⟩

theorem bodyFrame_secondaryReply (s : State) : BodyFrame s (secondaryReply s) := by
  rcases secondaryReply_cases s with ⟨-, h⟩ | ⟨-, h⟩ <;> rw [h]
  · exact ⟨rfl, rfl, rfl, rfl, .of_registers rfl rfl⟩
  · exact ⟨rfl, rfl, rfl, rfl, .of_registers rfl rfl⟩

theorem bodyFrame_serialBody (s : State) : BodyFrame s (serialBody s) := by
  obtain ⟨tos, inc, ab, h, -, -⟩ := serialBody_spec s
  rw [h]
  refine BodyFrame.trans ?_ ((bodyFrame_secondaryReply _).trans (bodyFrame_respond _ _))
  exact ⟨rfl, rfl, rfl, rfl, .of_registers rfl rfl⟩

theorem bodyFrame_timerBody (s : State) : BodyFrame s (timerBody s) := by
  rcases timerBody_cases s with ⟨-, ab, h⟩ | ⟨-, -, h⟩ | ⟨-, -, h⟩ <;> rw [h]
  · exact ⟨rfl, rfl, rfl, rfl, by constructor <;> simp⟩
  · exact ⟨rfl, rfl, rfl, rfl, by constructor <;> simp [nextOut_spec]⟩
  · exact ⟨rfl, rfl, rfl, rfl, .of_registers rfl rfl⟩

theorem bodyFrame_guardedBody (i : Instr) (s : State) : BodyFrame s (guardedBody i s) := by
  cases i with
  | send v => exact bodyFrame_sendBody v s
  | evSerial => exact bodyFrame_serialBody s
  | evTimer => exact bodyFrame_timerBody s
  | nop | activate | deactivate | isConnected | hasMessage | readMessage | evFrameSync =>
    exact ⟨rfl, rfl, rfl, rfl, .of_registers rfl rfl⟩

/-- A property that holds of the skipped state and of the body's state holds after the guard. -/
theorem issue_cases {P : State → Prop} {body : State → State} {s : State}
    (skipped : guardPasses s = false → P (skip s))
    (passed : guardPasses s = true → P (body { s with locked := true })) : P (issue body s) := by
  unfold issue
  split
  · exact passed ‹_›
  · exact skipped (Bool.eq_false_iff.mpr ‹_›)

/-! ### What a request changes of the configuration, the activation flag and the transport's fields -/

@[simp] theorem issue_guardedBody_enabled (i : Instr) (s : State) :
    (issue (guardedBody i) s).enabled = s.enabled :=
  issue_cases (P := fun t => t.enabled = s.enabled) (fun _ => rfl) fun _ => (bodyFrame_guardedBody i _).enabled

@[simp] theorem requestState_cfg (i : Instr) (s : State) : (requestState i s).cfg = s.cfg :=
  requestState_cases (P := fun _ t => t.cfg = s.cfg) rfl rfl rfl
    (fun j _ => issue_cases (P := fun t => t.cfg = s.cfg) (fun _ => rfl) fun _ => (bodyFrame_guardedBody j _).cfg) i

/-- No request writes a transport-owned field (spec/42_sync_mux.md R169, spec/10_state.md R38, R43). -/
theorem requestState_transport (i : Instr) (s : State) : SameTransportOwned s (requestState i s) := by
  refine requestState_cases (P := fun _ t => SameTransportOwned s t) (.of_registers rfl rfl) ?activate
    (.of_registers rfl rfl) (fun j _ => ?guarded) i
  case activate => constructor <;> simp [activateState]
  case guarded =>
    have locked : SameTransportOwned s { s with locked := true } := .of_registers rfl rfl
    exact issue_cases (fun _ => .of_registers rfl rfl) fun _ => locked.trans (bodyFrame_guardedBody j _).transport

/-- ACTIVATE is the only request that sets `enabled` (spec/10_state.md R21). -/
theorem requestState_enabled_of_ne_activate {i : Instr} {s : State} (hi : i ≠ .activate) (hs : s.enabled = false) :
    (requestState i s).enabled = false := by
  revert hi
  refine requestState_cases (P := fun j t => j ≠ .activate → t.enabled = false) (fun _ => hs) (fun h => absurd rfl h)
    (fun _ => rfl) (fun j _ _ => ?_) i
  rw [issue_guardedBody_enabled, hs]

/-! ### What a step can do -/

/-- The state in which the label of a step acts: the label taken off, the ghost list emptied (logs 4, 13). -/
def stepStart (s : State) : State := { takeLabel s with absorbed := [] }

/-- Taking a label off changes the model's own queue and counter only. -/
theorem stepStart_eq (s : State) :
    stepStart s = { s with inputs := (takeLabel s).inputs, draws := (takeLabel s).draws, absorbed := [] } := by
  unfold stepStart takeLabel
  split <;> rfl

@[simp] theorem stepStart_cfg (s : State) : (stepStart s).cfg = s.cfg := by rw [stepStart_eq]
@[simp] theorem stepStart_enabled (s : State) : (stepStart s).enabled = s.enabled := by rw [stepStart_eq]
@[simp] theorem stepStart_rxslot (s : State) : (stepStart s).rxslot = s.rxslot := by rw [stepStart_eq]
@[simp] theorem stepStart_ctrl (s : State) : (stepStart s).ctrl = s.ctrl := by rw [stepStart_eq]

/-- Everything a step with a next state can do (spec/42_sync_mux.md R176), by its label. -/
inductive StepOutcome (s : State) : State → Prop
  | request (w : ReqWord) (i : Instr) (label : nextLabel s = .req w) (decoded : decode w = .ok i) :
      StepOutcome s (requestState i (stepStart s))
  | reserved (w : ReqWord) (e : ReservedWord) (label : nextLabel s = .req w) (decoded : decode w = .error e) :
      StepOutcome s (reservedRequest (stepStart s))
  | retire (label : nextLabel s = .retire) : StepOutcome s (Machine.retire (stepStart s))
  | env (u : EnvUpdate) (label : nextLabel s = .env u) : StepOutcome s (envStep u (stepStart s))
  | ext (u : ExtUpdate) (label : nextLabel s = .ext u) (inactive : s.enabled = false) :
      StepOutcome s (extStep u (stepStart s))
  | rst (label : nextLabel s = .rst) : StepOutcome s (hardReset (stepStart s))

/-- A step is the presentation of its label in the state `stepStart` (R176, spec/70_reset_and_hazards.md R335). -/
theorem step_eq_performLabel {s : State} (hl : s.cfg.legal = true) :
    step s = performLabel (nextLabel s) (stepStart s) := by
  simp [step, hl, presentLabel, stepStart]

theorem StepOutcome.of_step {s t : State} (h : step s = .next t) : StepOutcome s t := by
  have hl : s.cfg.legal = true := by
    by_contra hl
    simp [step, hl] at h
  rw [step_eq_performLabel hl] at h
  cases hn : nextLabel s with
  | req w =>
    simp only [hn, performLabel, performRequest] at h
    cases hd : decode w with
    | ok i =>
      simp only [hd, exec_eq_next, Host.Outcome.next.injEq] at h
      exact h ▸ .request w i hn hd
    | error e =>
      simp only [hd, Host.Outcome.next.injEq] at h
      exact h ▸ .reserved w e hn hd
  | retire =>
    simp only [hn, performLabel, Host.Outcome.next.injEq] at h
    exact h ▸ .retire hn
  | env u =>
    simp only [hn, performLabel, Host.Outcome.next.injEq] at h
    exact h ▸ .env u hn
  | ext u =>
    cases he : s.enabled with
    | true => simp [hn, performLabel, he] at h
    | false =>
      simp only [hn, performLabel, stepStart_enabled, he, Bool.false_eq_true, if_false, Host.Outcome.next.injEq] at h
      exact h ▸ .ext u hn he
  | rst =>
    simp only [hn, performLabel, Host.Outcome.next.injEq] at h
    exact h ▸ .rst hn

end Sys2Proof.Machine
end

section
/-! The storage invariant: what it says of one ring, of one counter, and how the shared operations keep it. -/

namespace Sys2Proof.Machine

/-! ### One ring -/

/-- A ring in canonical form (spec/40_fifo.md R126) that holds real values only (spec/10_state.md R33). -/
def RealRing (C : Nat) (q : Ring) : Prop := ringWf C q = true ∧ NoSentinel (ringAbs C q)

section
variable {C : Nat} {q : Ring}

theorem realRing_powerOn (h : 0 < C) : RealRing C (Ring.powerOn C) :=
  ⟨powerOn_wf h, by simp [NoSentinel]⟩

theorem RealRing.push (h : RealRing C q) {v : Word} (hv : isRealValue v = true) : RealRing C (fifoPush C q v) :=
  ⟨fifoPush_wf h.1 v, (fifo_no_sentinel h.1 h.2).1 v hv⟩

theorem RealRing.pop (h : RealRing C q) : RealRing C (fifoPop C q).2 :=
  ⟨fifoPop_wf h.1, (fifo_no_sentinel h.1 h.2).2.1⟩

theorem RealRing.clear (h : RealRing C q) : RealRing C (fifoClear q) :=
  ⟨fifoClear_wf h.1, (fifo_no_sentinel h.1 h.2).2.2.1⟩

/-- A serial-complete tick clears a slot's FIFO, pushes a real value on it, or leaves it
(spec/44_event_handlers.md R208). -/
theorem RealRing.queueAfter (h : RealRing C q) (remoteTimeout : Nat) (isOwn : Bool) (r : Word) (t : Timeout) :
    RealRing C (queueAfter C remoteTimeout isOwn r t q) := by
  unfold Machine.queueAfter
  split
  · exact h.clear
  · split
    · next hpush =>
      obtain ⟨hreal, -⟩ := Bool.and_eq_true_iff.mp hpush
      exact h.push hreal
    · exact h

end

/-! ### One counter -/

/-- A counter one tick later is in its range again (spec/41_timeout_counter.md R140, R143 to R145). -/
theorem timeoutInRange_counterAfter {remoteTimeout : Nat} (hpos : 0 < remoteTimeout) (r : Word) (t : Timeout) :
    timeoutInRange remoteTimeout (counterAfter remoteTimeout r t) := by
  cases t with
  | offline =>
    unfold counterAfter
    split_ifs
    · trivial
    · trivial
    · exact hpos
  | live n =>
    unfold counterAfter
    split_ifs
    · by_cases hlast : n + 1 ≥ remoteTimeout
      · simp only [hlast, if_true, timeoutInRange]
      · simp only [hlast, if_false, timeoutInRange]
        omega
    · exact hpos
    · exact hpos

theorem remoteTimeout_pos {c : Config} (h : c.legal = true) : 0 < c.remoteTimeout := by
  simp only [Config.legal, Config.remoteTimeoutLegal, Bool.and_eq_true, decide_eq_true_eq] at h
  omega

/-- Four slots are counted, so the count of the detected ones fits three bits (spec/44_event_handlers.md R210). -/
theorem detectedCount_le (p : SlotId → Bool) : (BitVec.ofNat 3 (slotIds.filter p).length).toNat ≤ 4 := by
  have hle : (slotIds.filter p).length ≤ 4 := List.length_filter_le p slotIds
  rw [BitVec.toNat_ofNat]
  exact (Nat.mod_le _ _).trans hle

/-! ### The invariant -/

/-- The storage invariant, ring by ring. -/
theorem storageInv_iff {s : State} :
    StorageInv s ↔ s.cfg.legal = true ∧ (∀ i, RealRing s.cfg.queueCapacity (slotGet s.incoming i)) ∧
      RealRing s.cfg.queueCapacity s.outgoing ∧
      (∀ i, timeoutInRange s.cfg.remoteTimeout (slotGet s.timeouts i)) ∧ s.playerCount.toNat ≤ 4 ∧
      s.tmrSel = s.cfg.timerId := by
  constructor
  · rintro ⟨legal, ⟨inWf, outWf⟩, ⟨inReal, outReal⟩, counters, players, timerSlot⟩
    exact ⟨legal, fun i => ⟨inWf i, inReal i⟩, ⟨outWf, outReal⟩, counters, players, timerSlot⟩
  · rintro ⟨legal, incoming, ⟨outWf, outReal⟩, counters, players, timerSlot⟩
    exact ⟨legal, ⟨fun i => (incoming i).1, outWf⟩, ⟨fun i => (incoming i).2, outReal⟩, counters, players, timerSlot⟩

/-- The fields the storage invariant reads. -/
def storageFields (s : State) : Config × Slots Ring × Ring × Slots Timeout × BitVec 3 × Nat :=
  (s.cfg, s.incoming, s.outgoing, s.timeouts, s.playerCount, s.tmrSel)

/-- A write to any other field keeps the storage invariant. -/
theorem StorageInv.of_storageFields_eq {s t : State} (hs : StorageInv s) (h : storageFields t = storageFields s) :
    StorageInv t := by
  simp only [storageFields, Prod.mk.injEq] at h
  obtain ⟨cfg, incoming, outgoing, timeouts, playerCount, tmrSel⟩ := h
  rw [storageInv_iff] at *
  rw [cfg, incoming, outgoing, timeouts, playerCount, tmrSel]
  exact hs

theorem StorageInv.with_incoming {s : State} (hs : StorageInv s) {inc : Slots Ring}
    (hinc : ∀ i, RealRing s.cfg.queueCapacity (slotGet inc i)) : StorageInv { s with incoming := inc } := by
  obtain ⟨legal, -, outgoing, counters, players, timerSlot⟩ := storageInv_iff.mp hs
  exact storageInv_iff.mpr ⟨legal, hinc, outgoing, counters, players, timerSlot⟩

theorem StorageInv.with_outgoing {s : State} (hs : StorageInv s) {out : Ring}
    (hout : RealRing s.cfg.queueCapacity out) : StorageInv { s with outgoing := out } := by
  obtain ⟨legal, incoming, -, counters, players, timerSlot⟩ := storageInv_iff.mp hs
  exact storageInv_iff.mpr ⟨legal, incoming, hout, counters, players, timerSlot⟩

theorem StorageInv.incoming {s : State} (hs : StorageInv s) (i : SlotId) :
    RealRing s.cfg.queueCapacity (slotGet s.incoming i) := (storageInv_iff.mp hs).2.1 i

theorem StorageInv.outgoing {s : State} (hs : StorageInv s) : RealRing s.cfg.queueCapacity s.outgoing :=
  (storageInv_iff.mp hs).2.2.1

/-! ### The shared operations keep it -/

section
variable {s : State} (hs : StorageInv s)
include hs

theorem StorageInv.respond (v : Word) : StorageInv (respond v s) := hs.of_storageFields_eq rfl

theorem StorageInv.resetSession : StorageInv (resetSession s) :=
  storageInv_iff.mpr ⟨hs.legal, fun i => by simpa using (hs.incoming i).clear, hs.outgoing.clear,
    fun i => by simp [timeoutInRange], Nat.zero_le 4, hs.timerSlot⟩

theorem StorageInv.pushOutgoing {v : Word} (hv : isRealValue v = true) : StorageInv (pushOutgoing v s) :=
  (hs.with_outgoing (hs.outgoing.push hv)).of_storageFields_eq (by simp [storageFields])

theorem StorageInv.nextOut : StorageInv (nextOut s).2 := hs.with_outgoing hs.outgoing.pop

theorem StorageInv.sendBody (v : Word) : StorageInv (sendBody v s) := by
  rcases sendBody_cases v s with ⟨-, h⟩ | ⟨hv, h⟩ <;> rw [h]
  · exact hs.of_storageFields_eq rfl
  · exact (hs.pushOutgoing hv).respond _

theorem StorageInv.readMessageBody (p : SlotId) : StorageInv (readMessageBody p s) := by
  have popped : ∀ i, RealRing s.cfg.queueCapacity
      (slotGet (slotSet s.incoming p (fifoPop s.cfg.queueCapacity (slotGet s.incoming p)).2) i) := by
    intro i
    rw [slotGet_slotSet]
    split
    · exact (hs.incoming p).pop
    · exact hs.incoming i
  exact (hs.with_incoming popped).respond _

theorem StorageInv.secondaryReply : StorageInv (secondaryReply s) := by
  rcases secondaryReply_cases s with ⟨-, h⟩ | ⟨-, h⟩ <;> rw [h]
  · exact hs.nextOut.of_storageFields_eq rfl
  · exact hs

theorem StorageInv.serialBody : StorageInv (serialBody s) := by
  obtain ⟨tos, inc, ab, h, htos, hinc⟩ := serialBody_spec s
  rw [h]
  refine StorageInv.respond (StorageInv.secondaryReply ?_) 0x0000
  refine storageInv_iff.mpr ⟨hs.legal, fun i => ?incoming, hs.outgoing, fun i => ?counters, detectedCount_le _,
    hs.timerSlot⟩
  case incoming => simpa only [hinc i] using (hs.incoming i).queueAfter _ _ _ _
  case counters => simpa only [htos i] using timeoutInRange_counterAfter (remoteTimeout_pos hs.legal) _ _

theorem StorageInv.timerBody : StorageInv (timerBody s) := by
  rcases timerBody_cases s with ⟨-, ab, h⟩ | ⟨-, -, h⟩ | ⟨-, -, h⟩ <;> rw [h]
  · exact hs.resetSession.of_storageFields_eq rfl
  · exact hs.nextOut.of_storageFields_eq rfl
  · exact hs.respond _

theorem StorageInv.guardedBody (i : Instr) : StorageInv (guardedBody i s) := by
  cases i with
  | send v => exact hs.sendBody v
  | readMessage p => exact hs.readMessageBody p
  | evSerial => exact hs.serialBody
  | evTimer => exact hs.timerBody
  | nop | activate | deactivate | isConnected | hasMessage | evFrameSync => exact hs.of_storageFields_eq rfl

theorem StorageInv.requestState (i : Instr) : StorageInv (requestState i s) := by
  refine requestState_cases (P := fun _ t => StorageInv t) (hs.of_storageFields_eq rfl)
    (hs.resetSession.of_storageFields_eq rfl) (hs.resetSession.of_storageFields_eq rfl) (fun j _ => ?_) i
  have locked : StorageInv { s with locked := true } := hs.of_storageFields_eq rfl
  exact issue_cases (fun _ => hs.of_storageFields_eq rfl) fun _ => locked.guardedBody j

/-- The hardware reset is a session reset with `TMR_SEL` written (spec/43_lifecycle.md R192). -/
theorem StorageInv.hardReset : StorageInv (hardReset s) :=
  hs.resetSession.of_storageFields_eq (by simp [storageFields, Machine.hardReset, hs.timerSlot])

end

/-- Settles O46: every label's outcome is a session reset, a guarded body, or a write to fields the invariant does not
read. -/
theorem stepKeepsStorage : Obligations.StepKeepsStorage := by
  intro s t hs hstep
  have start : StorageInv (stepStart s) := hs.of_storageFields_eq (by rw [stepStart_eq]; rfl)
  cases StepOutcome.of_step hstep with
  | request w i => exact start.requestState i
  | reserved | env | ext => exact start.of_storageFields_eq rfl
  | retire => exact start.of_storageFields_eq (by rw [retire_spec]; rfl)
  | rst => exact start.hardReset

end Sys2Proof.Machine
end

section
/-! The state after reset, the session tag, and what no step changes. -/

namespace Sys2Proof.Machine

/-! ### The state after reset -/

/-- A state the session reset leaves as it is has every session field at its reset value (spec/10_state.md R49). -/
theorem sessionAtReset_of_resetSession_eq {s : State} (h : resetSession s = s) : SessionAtReset s := by
  rw [← h]
  constructor <;> simp [inbox, outbox]

theorem sessionAtReset_reset : SessionAtReset State.reset := sessionAtReset_of_resetSession_eq rfl

theorem sessionAtReset_hardReset (s : State) : SessionAtReset (hardReset s) := sessionAtReset_of_resetSession_eq rfl

theorem powerOnState_reset : PowerOnState State.reset where
  enabled := rfl
  locked := rfl
  session := sessionAtReset_reset
  heads i := by rcases slotId_cases i with rfl | rfl | rfl | rfl <;> rfl
  outHead := rfl
  timerSlot := rfl
  timerOff := rfl
  timerIrqOff := rfl
  trace := rfl

/-- The hardware reset leaves the power-on state (spec/43_lifecycle.md R192). -/
theorem powerOnState_hardReset (s : State) : PowerOnState (hardReset s) where
  enabled := rfl
  locked := rfl
  session := sessionAtReset_hardReset s
  heads i := congrArg Ring.head (slotGet_clearAll s.incoming i)
  outHead := rfl
  timerSlot := rfl
  timerOff := rfl
  timerIrqOff := rfl
  trace := rfl

/-- Settles O24: both states are left as they are by the session reset. -/
theorem resetStateValues : Obligations.ResetStateValues := by
  refine ⟨powerOnState_reset, fun s rest legal inputs => ⟨hardReset (stepStart s), ?_, powerOnState_hardReset _⟩⟩
  have label : nextLabel s = .rst := by simp only [nextLabel, inputs]
  rw [step_eq_performLabel legal, label, performLabel]

theorem storageInv_reset : StorageInv State.reset := by
  have powerOn : RealRing 30 (Ring.powerOn 30) := realRing_powerOn (by decide)
  refine storageInv_iff.mpr ⟨by decide, fun i => ?_, powerOn, fun i => ?_, by decide, rfl⟩
  · rcases slotId_cases i with rfl | rfl | rfl | rfl <;> exact powerOn
  · rw [sessionAtReset_reset.timeouts i]
    trivial

/-- With `enabled = 0` and the session at reset, the clauses about an activated or locked block are empty. -/
theorem sessionInv_of_inactive {s : State} (he : s.enabled = false) (hl : s.locked = false) (hs : SessionAtReset s) :
    SessionInv s where
  lockedEnabled h := by simp [hl] at h
  inactive _ := hs
  active h := by simp [he] at h
  offlineEmpty i _ := hs.incoming i
  fresh _ := hs.irqTimeout

/-- Settles O48: empty canonical rings, and a block that is not activated. -/
theorem resetHasInvariants : Obligations.ResetHasInvariants :=
  ⟨storageInv_reset, sessionInv_of_inactive rfl rfl sessionAtReset_reset⟩

/-! ### The session tag -/

theorem connectedFields_iff (n : BitVec 3) (id : SlotId) :
    connectedFields n id = true ↔ 1 < n.toNat ∧ id.toNat < n.toNat := by
  simp [connectedFields]

theorem sessionTag_of_disabled {s : State} (h : s.enabled = false) : sessionTag s = .inactive := by
  simp [sessionTag, h]

theorem sessionTag_of_enabled {s : State} (h : s.enabled = true) :
    sessionTag s = if connectedFields s.playerCount s.currentPlayerId = true then .connected else .searching := by
  unfold sessionTag
  rw [h]
  rfl

theorem sessionTag_eq_inactive_iff {s : State} : sessionTag s = .inactive ↔ s.enabled = false := by
  cases h : s.enabled with
  | false => simp [sessionTag_of_disabled h]
  | true =>
    rw [sessionTag_of_enabled h]
    split <;> simp

/-- Settles O38, by cases on `enabled`. -/
theorem connectedTagNeedsTwoPlayers : Obligations.ConnectedTagNeedsTwoPlayers := by
  intro s
  refine ⟨sessionTag_eq_inactive_iff, ?_⟩
  rw [← connectedFields_iff]
  cases h : s.enabled with
  | false => simp [sessionTag_of_disabled h]
  | true =>
    rw [sessionTag_of_enabled h]
    split <;> simp_all

/-- The tag is read from three fields; a write to any other keeps it (spec/10_state.md R30). -/
theorem sessionTag_congr {s t : State} (he : t.enabled = s.enabled) (hp : t.playerCount = s.playerCount)
    (hi : t.currentPlayerId = s.currentPlayerId) : sessionTag t = sessionTag s := by
  unfold sessionTag connected
  rw [he, hp, hi]

/-- No player is detected after a session reset, so an activated block is Searching (spec/10_state.md R31). -/
theorem sessionTag_of_noPlayers {s : State} (he : s.enabled = true) (hp : s.playerCount = 0) :
    sessionTag s = .searching := by
  rw [sessionTag_of_enabled he, if_neg]
  simp [connectedFields_iff, hp]

theorem sessionTag_activateState (s : State) : sessionTag (activateState s) = .searching :=
  sessionTag_of_noPlayers rfl rfl

theorem sessionTag_deactivateState (s : State) : sessionTag (deactivateState s) = .inactive :=
  sessionTag_of_disabled rfl

theorem sessionTag_sendBody (v : Word) (s : State) : sessionTag (sendBody v s) = sessionTag s := by
  rcases sendBody_cases v s with ⟨-, h⟩ | ⟨-, h⟩ <;> rw [h]
  · rfl
  · exact sessionTag_congr (by simp) (by simp) (by simp)

theorem sessionTag_timerBody {s : State} (he : s.enabled = true) :
    sessionTag (timerBody s) = if resetNeeded s = true then .searching else sessionTag s := by
  rcases timerBody_cases s with ⟨hr, ab, h⟩ | ⟨hr, -, h⟩ | ⟨hr, -, h⟩ <;> rw [h, hr]
  · exact sessionTag_of_noPlayers he rfl
  · rfl
  · rfl

/-- The tag after a serial-complete tick is that of the new players and id. -/
theorem sessionTag_serialBody {s : State} (he : s.enabled = true) :
    sessionTag (serialBody s) =
      if connectedFields (serialBody s).playerCount (serialBody s).currentPlayerId = true then .connected
      else .searching :=
  sessionTag_of_enabled ((bodyFrame_serialBody s).enabled.trans he)

/-- How the body of a guarded operation moves the tag of an activated block. -/
theorem sessionTag_guardedBody {i : Instr} {s : State} (he : s.enabled = true) :
    sessionTag (guardedBody i s) =
      if i = .evTimer ∧ resetNeeded s = true then .searching
      else if i = .evSerial then
        (if connectedFields (guardedBody i s).playerCount (guardedBody i s).currentPlayerId = true then .connected
         else .searching)
      else sessionTag s := by
  cases i with
  | evTimer => simpa [guardedBody] using sessionTag_timerBody he
  | evSerial =>
    rw [if_neg (by simp), if_pos rfl]
    exact sessionTag_serialBody he
  | send v => simpa [guardedBody] using sessionTag_sendBody v s
  | nop | activate | deactivate | isConnected | hasMessage | readMessage | evFrameSync =>
    simp only [reduceCtorEq, false_and, if_false]
    rfl

/-- The tag R31 gives the state `t` an operation takes `s` to. -/
def tagAfter (i : Instr) (s t : State) : SessionTag :=
  if i = .activate then .searching
  else if i = .deactivate then .inactive
  else if guardPasses s = true ∧ i = .evTimer ∧ resetNeeded s = true then .searching
  else if guardPasses s = true ∧ i = .evSerial then
    (if connectedFields t.playerCount t.currentPlayerId = true then .connected else .searching)
  else sessionTag s

/-- A guarded operation that is skipped does not move the tag; one that passes moves it as its body does. -/
theorem sessionTag_issue_guardedBody {i : Instr} (hi : Guarded i) (s : State) :
    sessionTag (issue (guardedBody i) s) = tagAfter i s (issue (guardedBody i) s) := by
  have hact : i ≠ .activate := by rintro rfl; exact hi
  have hdeact : i ≠ .deactivate := by rintro rfl; exact hi
  simp only [tagAfter, hact, hdeact, if_false]
  cases hg : guardPasses s with
  | false =>
    simp only [issue_skip _ hg, Bool.false_eq_true, false_and, if_false]
    rfl
  | true =>
    have he : s.enabled = true := (Bool.and_eq_true_iff.mp hg).2
    simp only [issue_pass _ hg, true_and]
    exact sessionTag_guardedBody he

theorem sessionTag_requestState (i : Instr) (s : State) :
    sessionTag (requestState i s) = tagAfter i s (requestState i s) := by
  refine requestState_cases (P := fun j t => sessionTag t = tagAfter j s t) ?nop (sessionTag_activateState s)
    (sessionTag_deactivateState s) (fun j hj => sessionTag_issue_guardedBody hj s) i
  case nop =>
    simp only [tagAfter, reduceCtorEq, and_false, false_and, if_false]
    rfl

/-- RETIRE never moves the tag (spec/10_state.md R31). -/
theorem sessionTag_retire (s : State) : sessionTag (retire s) = sessionTag s := by
  rw [retire_spec]
  rfl

/-- Settles O49: only a session reset and the serial-complete tick write what the tag is read from. -/
theorem requestsMoveTag : Obligations.RequestsMoveTag :=
  fun i s => ⟨requestState i s, exec_eq_next i s, sessionTag_requestState i s, sessionTag_retire s⟩

/-! ### Leaving Inactive -/

/-- A request word is its opcode and its argument (spec/30_encoding.md R90). -/
theorem reqWord_ext {v w : ReqWord} (ho : opcodeOf v = opcodeOf w) (ha : argumentOf v = argumentOf w) : v = w := by
  apply BitVec.eq_of_getLsbD_eq
  intro k hk
  by_cases hlow : k < 16
  · simpa [argumentOf, hlow] using congrArg (fun a : BitVec 16 => a.getLsbD k) ha
  · have hhigh : k - 16 < 4 := by omega
    have hsum : 16 + (k - 16) = k := by omega
    simpa [opcodeOf, hhigh, hsum] using congrArg (fun o : BitVec 4 => o.getLsbD (k - 16)) ho

theorem operandlessInstr_eq_activate {opc : BitVec 4} (h : operandlessInstr opc = some .activate) : opc = 0x1 := by
  revert opc
  decide

/-- ACTIVATE is the word 0x10000 only (spec/30_encoding.md R92). -/
theorem eq_of_decode_activate {w : ReqWord} (h : decode w = .ok .activate) : w = 0x10000 := by
  cases hi : operandlessInstr (opcodeOf w) with
  | none =>
    simp only [decode, hi] at h
    split_ifs at h <;> cases h
  | some i =>
    simp only [decode, hi] at h
    split_ifs at h with _ _ _ _ _ harg <;> cases h
    exact reqWord_ext ((operandlessInstr_eq_activate hi).trans (by decide)) (harg.trans (by decide))

/-- A step out of a state with `enabled = 0` sets the flag by ACTIVATE only. -/
theorem StepOutcome.enabled_of_inactive {s t : State} (h : StepOutcome s t) (hs : s.enabled = false)
    (ht : t.enabled = true) : nextLabel s = .req 0x10000 ∧ t = activateState (stepStart s) := by
  have start : (stepStart s).enabled = false := (stepStart_enabled s).trans hs
  cases h with
  | request w i label decoded =>
    by_cases hi : i = .activate
    · subst hi
      exact ⟨eq_of_decode_activate decoded ▸ label, rfl⟩
    · rw [requestState_enabled_of_ne_activate hi start] at ht
      cases ht
  | reserved | env | ext => exact absurd ht (Bool.eq_false_iff.mp start)
  | retire =>
    rw [retire_spec] at ht
    exact absurd ht (Bool.eq_false_iff.mp start)
  | rst => cases ht

/-- Settles O50: leaving Inactive is setting `enabled`. -/
theorem onlyActivateLeavesInactive : Obligations.OnlyActivateLeavesInactive := by
  intro s t hs hstep ht
  obtain ⟨label, rfl⟩ := (StepOutcome.of_step hstep).enabled_of_inactive (sessionTag_eq_inactive_iff.mp hs)
    (Bool.eq_true_of_not_eq_false fun h => ht (sessionTag_of_disabled h))
  exact ⟨label, sessionTag_activateState _⟩

/-! ### What no step changes -/

/-- Settles O51, by the outcomes of a step. -/
theorem configurationNeverChanges : Obligations.ConfigurationNeverChanges := by
  intro s t hstep
  cases StepOutcome.of_step hstep with
  | request w i => exact (requestState_cfg i _).trans (stepStart_cfg s)
  | reserved | env | ext | rst => exact stepStart_cfg s
  | retire =>
    rw [retire_spec]
    exact stepStart_cfg s

/-- The external owner writes `start`, `multi` and `other` of CTRL (spec/42_sync_mux.md R172), so a reading that none of
these three writes changes is unchanged. -/
theorem extCtrl_keeps {α : Type} (f : Word → α) (hstart : ∀ b c, f (setCtrlStart b c) = f c)
    (hmulti : ∀ b c, f (setCtrlMulti b c) = f c) (hother : ∀ v c, f (setCtrlOther v c) = f c) (u : ExtUpdate)
    (c : Word) : f (extCtrl u c) = f c := by
  unfold extCtrl
  cases u.start <;> cases u.multi <;> cases u.other <;> simp only [hstart, hmulti, hother]

theorem extStep_transport (u : ExtUpdate) (s : State) : SameTransportOwned s (extStep u s) where
  rxslot := rfl
  secondary := extCtrl_keeps ctrlSecondary (by simp) (by simp) (by simp) u s.ctrl
  ready := extCtrl_keeps ctrlReady (by simp) (by simp) (by simp) u s.ctrl
  id := extCtrl_keeps ctrlId (by simp) (by simp) (by simp) u s.ctrl
  error := extCtrl_keeps ctrlError (by simp) (by simp) (by simp) u s.ctrl

/-- Settles O52, by the outcomes of a step: the block's writes of CTRL are to other bits. -/
theorem blockNeverWritesTransportOwned : Obligations.BlockNeverWritesTransportOwned := by
  intro s t hstep notEnv
  have start : SameTransportOwned s (stepStart s) := .of_registers (stepStart_rxslot s) (stepStart_ctrl s)
  refine start.trans ?_
  cases StepOutcome.of_step hstep with
  | request w i => exact requestState_transport i _
  | reserved | rst => exact .of_registers rfl rfl
  | retire => exact .of_registers (by rw [retire_spec]) (by rw [retire_spec])
  | env u label => exact absurd label (notEnv u)
  | ext u => exact extStep_transport u _

end Sys2Proof.Machine
end

section
/-! The lifecycle requests are idempotent: writing a field of CTRL or MODE twice leaves what writing it once does, and so
for clearing a queue; everything else they write is the same whatever stood there. -/

namespace Sys2Proof.Machine

/-! ### A register write repeated -/

/-- The later of two writes of one field stands. -/
theorem writeField_writeField (m v v' w : Word) : writeField m v (writeField m v' w) = writeField m v w := by
  apply BitVec.eq_of_getLsbD_eq
  intro i _
  simp only [writeField_getLsbD]
  cases m.getLsbD i <;> rfl

theorem setModeSel_setModeSel (sel sel' : BitVec 2) (m : Word) :
    setModeSel sel (setModeSel sel' m) = setModeSel sel m := writeField_writeField _ _ _ _

/-- What the configuration of the transport writes to CTRL (spec/42_sync_mux.md R169). -/
def configureCtrl (other c : Word) : Word := setCtrlStart false (setCtrlMulti true (setCtrlOther other c))

/-- The fields it writes do not depend on CTRL, and the others it keeps. -/
theorem configureCtrl_configureCtrl (other c : Word) :
    configureCtrl other (configureCtrl other c) = configureCtrl other c := by
  unfold configureCtrl
  apply ctrl_ext <;> simp

/-! ### A clear repeated -/

theorem fifoClear_fifoClear (q : Ring) : fifoClear (fifoClear q) = fifoClear q := rfl

theorem clearAll_clearAll (q : Slots Ring) : clearAll (clearAll q) = clearAll q := rfl

/-! ### A lifecycle request repeated -/

/-- Everything ACTIVATE writes, in one record (spec/43_lifecycle.md R187). -/
theorem activateState_eq (s : State) :
    activateState s = { s with
      enabled := true, locked := false, playerCount := 0, currentPlayerId := 0, incoming := clearAll s.incoming,
      outgoing := fifoClear s.outgoing, timeouts := slotsAll .offline, irqFlag := false, irqTimeout := 0,
      ctrl := configureCtrl (cfgOtherWord s.cfg) s.ctrl, mode := setModeSel s.cfg.modeMulti s.mode,
      txdata := noDataWord, tmrReload := s.cfg.interval, tmrEn := true, tmrIrqEn := true, resp := 0x0000,
      trace := s.trace ++ [.transportConfig s.cfg.modeMulti] ++ [.timerStart] } := rfl

/-- Everything DEACTIVATE writes, in one record (spec/43_lifecycle.md R188). -/
theorem deactivateState_eq (s : State) :
    deactivateState s = { s with
      enabled := false, locked := false, playerCount := 0, currentPlayerId := 0, incoming := clearAll s.incoming,
      outgoing := fifoClear s.outgoing, timeouts := slotsAll .offline, irqFlag := false, irqTimeout := 0,
      mode := setModeSel s.cfg.modeGp s.mode, tmrEn := false, tmrIrqEn := false, resp := 0x0000,
      trace := s.trace ++ [.timerStop] ++ [.transportConfig s.cfg.modeGp] } := rfl

/-- Of what ACTIVATE writes, only the queues, CTRL and MODE depend on what they held, and on a second ACTIVATE they
already hold what it writes. -/
theorem activateState_activateState (s : State) :
    { activateState (activateState s) with trace := (activateState s).trace } = activateState s := by
  simp only [activateState_eq, clearAll_clearAll, fifoClear_fifoClear, configureCtrl_configureCtrl,
    setModeSel_setModeSel]

/-- Of what DEACTIVATE writes, only the queues and MODE depend on what they held. -/
theorem deactivateState_deactivateState (s : State) :
    { deactivateState (deactivateState s) with trace := (deactivateState s).trace } = deactivateState s := by
  simp only [deactivateState_eq, clearAll_clearAll, fifoClear_fifoClear, setModeSel_setModeSel]

/-- Settles O21, by the three requests. -/
theorem lifecycleRequestsIdempotent : Obligations.LifecycleRequestsIdempotent := by
  intro i s hi
  refine ⟨requestState i s, requestState i (requestState i s), exec_eq_next i s, exec_eq_next i _, ?_⟩
  rcases hi with rfl | rfl | rfl
  · exact activateState_activateState s
  · exact deactivateState_deactivateState s
  · rfl

end Sys2Proof.Machine
end

section
/-! The encoding: what the decoder does for each opcode, which words an operation and a row of the opcode map have,
the stored byte of a timeout counter, and the step of a reserved word. -/

namespace Sys2Proof.Machine

/-! ### The opcodes, by what the decoder does with them -/

/-- No operation has the opcode `opc` (spec/30_encoding.md R92, R103). -/
abbrev ReservedOpcode (opc : BitVec 4) : Prop := opc = 0x7 ∨ 0xB ≤ opc

/-- Every opcode is SEND's, one of the two peer forms', an operation's without operand, or reserved. -/
theorem opcode_cases (opc : BitVec 4) :
    opc = 0x3 ∨ opc = 0x5 ∨ opc = 0x6 ∨ (∃ i, operandlessInstr opc = some i) ∨ ReservedOpcode opc := by
  simp only [← Option.isSome_iff_exists]
  revert opc
  decide

/-- The decoder knows no reserved opcode. -/
theorem ReservedOpcode.noOperation {opc : BitVec 4} (h : ReservedOpcode opc) :
    opc ≠ 0x3#4 ∧ opc ≠ 0x5#4 ∧ opc ≠ 0x6#4 ∧ operandlessInstr opc = none := by
  revert opc
  decide

/-- An operation found by its opcode alone has that opcode and a zero argument (spec/30_encoding.md R91, R92). -/
theorem operandlessInstr_fields {opc : BitVec 4} {i : Instr} (h : operandlessInstr opc = some i) :
    opc = i.opcode ∧ i.argument = 0 := by
  unfold operandlessInstr at h
  split_ifs at h with h0 h1 h2 h4 h8 h9 hA <;> cases h <;> exact ⟨‹_›, rfl⟩

theorem operandlessInstr_isSome_of_mem {opc : BitVec 4} (h : opc ∈ [0x0#4, 0x1#4, 0x2#4, 0x4#4, 0x8#4, 0x9#4, 0xA#4]) :
    ∃ i, operandlessInstr opc = some i := by
  rw [← Option.isSome_iff_exists]
  revert opc
  decide

/-! ### The decoder, opcode by opcode (spec/30_encoding.md R97) -/

section
variable {w : ReqWord}

theorem decode_send (h : opcodeOf w = 0x3) : decode w = .ok (.send (argumentOf w)) := by
  simp [decode, h]

theorem decode_hasMessage (h : opcodeOf w = 0x5) :
    decode w = if peerReservedOf w = 0 then .ok (.hasMessage (peerOf w)) else .error (.argument 0x5 (argumentOf w)) := by
  simp [decode, h]

theorem decode_readMessage (h : opcodeOf w = 0x6) :
    decode w = if peerReservedOf w = 0 then .ok (.readMessage (peerOf w)) else .error (.argument 0x6 (argumentOf w)) := by
  simp [decode, h]

theorem decode_operandless {i : Instr} (h : operandlessInstr (opcodeOf w) = some i) :
    decode w = if argumentOf w = 0 then .ok i else .error (.argument (opcodeOf w) (argumentOf w)) := by
  have other : ∀ opc, operandlessInstr opc = none → opcodeOf w ≠ opc := by
    rintro _ hnone rfl
    cases hnone.symm.trans h
  rw [decode, if_neg (other 0x3#4 rfl), if_neg (other 0x5#4 rfl), if_neg (other 0x6#4 rfl), h]

theorem decode_reservedOpcode (h : ReservedOpcode (opcodeOf w)) : decode w = .error (.opcode (opcodeOf w)) := by
  obtain ⟨h3, h5, h6, hnone⟩ := h.noOperation
  rw [decode, if_neg h3, if_neg h5, if_neg h6, hnone]

end

/-- Settles O3: each clause is the decoder's equation for that opcode. -/
theorem decodeReadsOpcodeAndArgument : Obligations.DecodeReadsOpcodeAndArgument := by
  intro w
  have operandless : ∀ {opc : BitVec 4} {i : Instr}, operandlessInstr opc = some i → opcodeOf w = opc →
      decode w = if argumentOf w = 0 then .ok i else .error (.argument (opcodeOf w) (argumentOf w)) :=
    fun hi h => decode_operandless (h ▸ hi)
  refine ⟨decode_reservedOpcode, decode_send, fun h => ?hasMessage, fun h => ?readMessage, operandless rfl,
    operandless rfl, operandless rfl, operandless rfl, operandless rfl, operandless rfl, operandless rfl⟩
  case hasMessage => exact h ▸ decode_hasMessage h
  case readMessage => exact h ▸ decode_readMessage h

/-! ### An operation and its word -/

/-- In the peer forms the argument is the peer below fourteen zeros (spec/30_encoding.md R91, R95). -/
theorem argumentOf_eq_peer_iff {w : ReqWord} {p : SlotId} :
    argumentOf w = p.setWidth 16 ↔ peerReservedOf w = 0 ∧ peerOf w = p := by
  simp only [← BitVec.toNat_inj, argumentOf, peerReservedOf, peerOf, BitVec.extractLsb'_toNat, BitVec.toNat_setWidth,
    Nat.shiftRight_eq_div_pow, BitVec.ofNat_eq_ofNat, BitVec.toNat_ofNat]
  omega

/-- A word decodes to an operation exactly when its two fields are the operation's: no bit of the word is free, and none
is dropped (spec/30_encoding.md R90, R92). -/
theorem decode_eq_ok_iff {w : ReqWord} {i : Instr} :
    decode w = .ok i ↔ opcodeOf w = i.opcode ∧ argumentOf w = i.argument := by
  constructor
  · intro h
    rcases opcode_cases (opcodeOf w) with ho | ho | ho | ⟨j, hj⟩ | ho
    · rw [decode_send ho] at h
      cases h
      exact ⟨ho, rfl⟩
    · rw [decode_hasMessage ho] at h
      split_ifs at h with hz
      cases h
      exact ⟨ho, argumentOf_eq_peer_iff.mpr ⟨hz, rfl⟩⟩
    · rw [decode_readMessage ho] at h
      split_ifs at h with hz
      cases h
      exact ⟨ho, argumentOf_eq_peer_iff.mpr ⟨hz, rfl⟩⟩
    · rw [decode_operandless hj] at h
      split_ifs at h with hz
      cases h
      obtain ⟨hopc, harg⟩ := operandlessInstr_fields hj
      exact ⟨hopc, hz.trans harg.symm⟩
    · rw [decode_reservedOpcode ho] at h
      cases h
  · rintro ⟨ho, ha⟩
    cases i with
    | send v => rw [decode_send ho, ha]; rfl
    | hasMessage p =>
      obtain ⟨hz, hp⟩ := argumentOf_eq_peer_iff.mp ha
      rw [decode_hasMessage ho, if_pos hz, hp]
    | readMessage p =>
      obtain ⟨hz, hp⟩ := argumentOf_eq_peer_iff.mp ha
      rw [decode_readMessage ho, if_pos hz, hp]
    | nop | activate | deactivate | isConnected | evFrameSync | evSerial | evTimer =>
      exact (decode_operandless (ho ▸ rfl)).trans (if_pos ha)

@[simp] theorem opcodeOf_encode (i : Instr) : opcodeOf (encode i) = i.opcode := Laws.opcodeOf_word _ _

@[simp] theorem argumentOf_encode (i : Instr) : argumentOf (encode i) = i.argument := Laws.argumentOf_word _ _

@[simp] theorem decode_encode (i : Instr) : decode (encode i) = .ok i :=
  decode_eq_ok_iff.mpr ⟨opcodeOf_encode i, argumentOf_encode i⟩

theorem encode_of_decode {w : ReqWord} {i : Instr} (h : decode w = .ok i) : encode i = w := by
  obtain ⟨ho, ha⟩ := decode_eq_ok_iff.mp h
  exact reqWord_ext ((opcodeOf_encode i).trans ho.symm) ((argumentOf_encode i).trans ha.symm)

/-- Settles O1: the encoder writes the two fields the decoder reads. -/
theorem decodeInvertsEncode : Obligations.DecodeInvertsEncode := decode_encode

/-- Settles O2: a word is its two fields, and decoding determines both. -/
theorem encodeInvertsDecode : Obligations.EncodeInvertsDecode := fun _ _ => encode_of_decode

/-- Settles O5: the six words are the encoder's, and the two reserved ones have opcode 0x7 and a peer above 3. -/
theorem sampleWordsDecode : Obligations.SampleWordsDecode :=
  ⟨decode_encode .nop, decode_encode .activate, decode_encode (.send 0x1234), decode_encode (.hasMessage 3),
    decode_encode (.readMessage 2), decode_encode .evTimer, decode_reservedOpcode (by decide),
    (decode_hasMessage (by decide)).trans (if_neg (by decide))⟩

/-! ### The opcode map -/

/-- An operation's word selects its row of the opcode map and no other (spec/30_encoding.md R92). -/
theorem selects_encode_iff (i : Instr) : Laws.EncodingMatchesTable.Statement i := by
  cases i with
  | nop => exact Laws.EncodingMatchesTable.nop
  | activate => exact Laws.EncodingMatchesTable.activate
  | deactivate => exact Laws.EncodingMatchesTable.deactivate
  | send v => exact Laws.EncodingMatchesTable.send v
  | isConnected => exact Laws.EncodingMatchesTable.isConnected
  | hasMessage p => exact Laws.EncodingMatchesTable.hasMessage p
  | readMessage p => exact Laws.EncodingMatchesTable.readMessage p
  | evFrameSync => exact Laws.EncodingMatchesTable.evFrameSync
  | evSerial => exact Laws.EncodingMatchesTable.evSerial
  | evTimer => exact Laws.EncodingMatchesTable.evTimer

theorem exists_row_of_mnemonic (i : Instr) : ∃ r ∈ opcodeTable, r.mnemonic = i.mnemonic := by
  cases i <;> simp [opcodeTable, Instr.mnemonic]

theorem row_eq_of_mnemonic_eq : ∀ r ∈ opcodeTable, ∀ r' ∈ opcodeTable, r'.mnemonic = r.mnemonic → r' = r := by
  decide

/-- The three kinds of row: all twenty bits fixed, the opcode fixed, all but the peer fixed (spec/30_encoding.md R91,
R92). -/
theorem row_kinds : ∀ r ∈ opcodeTable,
    (r.mask = 0xFFFFF ∧ (operandlessInstr (opcodeOf r.pattern)).isSome ∧ argumentOf r.pattern = 0) ∨
    (r.mask = 0xF0000 ∧ opcodeOf r.pattern = 0x3) ∨
    (r.mask = 0xFFFFC ∧ (opcodeOf r.pattern = 0x5 ∨ opcodeOf r.pattern = 0x6) ∧ peerReservedOf r.pattern = 0) := by
  decide

/-- Every row fixes the whole opcode. -/
theorem opcodeOf_mask : ∀ r ∈ opcodeTable, opcodeOf r.mask = 0xF := by decide

theorem peerReservedOf_and (w m : ReqWord) : peerReservedOf (w &&& m) = peerReservedOf w &&& peerReservedOf m :=
  BitVec.extractLsb'_and

/-- A word that selects a row of the opcode map decodes to an operation. -/
theorem decode_of_selects {r : OpcodeRow} {w : ReqWord} (hr : r ∈ opcodeTable) (hs : r.selects w = true) :
    ∃ i, decode w = .ok i := by
  have masked : w &&& r.mask = r.pattern := of_decide_eq_true hs
  have opcode : opcodeOf w = opcodeOf r.pattern := by
    rw [← masked, Laws.opcodeOf_and, opcodeOf_mask r hr]
    exact BitVec.and_allOnes.symm
  rcases row_kinds r hr with ⟨hm, hi, ha⟩ | ⟨-, ho⟩ | ⟨hm, ho, hz⟩
  · obtain ⟨i, hi⟩ := Option.isSome_iff_exists.mp hi
    have hw : w = r.pattern := by
      rw [← masked, hm]
      exact BitVec.and_allOnes.symm
    exact ⟨i, by rw [hw, decode_operandless hi, if_pos ha]⟩
  · exact ⟨_, decode_send (opcode.trans ho)⟩
  · have reserved : peerReservedOf w = 0 := by
      rw [← hz, ← masked, peerReservedOf_and, hm]
      exact BitVec.and_allOnes.symm
    rcases ho with ho | ho
    · exact ⟨_, (decode_hasMessage (opcode.trans ho)).trans (if_pos reserved)⟩
    · exact ⟨_, (decode_readMessage (opcode.trans ho)).trans (if_pos reserved)⟩

/-- Settles O4: a word that decodes is its operation's word, which selects one row; a word that selects a row decodes. -/
theorem decodeAgreesWithOpcodeMap : Obligations.DecodeAgreesWithOpcodeMap := by
  intro w
  cases hd : decode w with
  | ok i =>
    obtain ⟨r, hr, hm⟩ := exists_row_of_mnemonic i
    refine .inl ⟨i, r, rfl, hr, hm, fun r' hr' => ?_⟩
    rw [← encode_of_decode hd, selects_encode_iff i r' hr', ← hm]
    exact ⟨row_eq_of_mnemonic_eq r hr r' hr', fun h => h ▸ rfl⟩
  | error e =>
    refine .inr ⟨e, rfl, fun r hr => Bool.eq_false_iff.mpr fun hs => ?_⟩
    obtain ⟨i, hi⟩ := decode_of_selects hr hs
    cases hd.symm.trans hi

/-! ### The stored byte of a timeout counter (spec/30_encoding.md R102) -/

theorem timeoutByte_live_toNat {n : Nat} (h : n ≤ 0xFE) : (timeoutByte (.live n)).toNat = n := by
  simp only [timeoutByte, BitVec.toNat_ofNat]
  omega

/-- The byte 0xFF is left to `OFFLINE`. -/
theorem timeoutByte_live_ne {n : Nat} (h : n ≤ 0xFE) : timeoutByte (.live n) ≠ 0xFF := by
  intro hff
  have hn : 0xFF = n := by rw [← timeoutByte_live_toNat h, hff]; rfl
  omega

theorem timeoutOfByte_of_ne {b : BitVec 8} (h : b ≠ 0xFF) : timeoutOfByte b = .live b.toNat := if_neg h

/-- Settles O6: only the count 0xFF would be stored as `OFFLINE` is, and a counter below `REMOTE_TIMEOUT` stays under it. -/
theorem timeoutByteRoundTrip : Obligations.TimeoutByteRoundTrip := by
  refine ⟨rfl, rfl, fun n hn => ⟨timeoutByte_live_toNat hn, ?_⟩, fun b => timeoutOfByte_of_ne, fun rt n hrt hn => ?_⟩
  · rw [timeoutOfByte_of_ne (timeoutByte_live_ne hn), timeoutByte_live_toNat hn]
  · have hlt : n < rt := hn
    exact timeoutByte_live_ne (by omega)

/-! ### The assembler's examples (spec/30_encoding.md R107) -/

/-- A line is assembled in two steps: the request it reads as, then that request's word. -/
theorem assemble_of_parse {line : List Char} {r : AsmRequest} {w : Option ReqWord}
    (parsed : parseRequest (lineTokens line) = some r) (assembled : assembleWord r = w) :
    (parseRequest (lineTokens line)).bind assembleWord = w := by
  rw [parsed, Option.bind_some, assembled]

/-- Settles O7: the request each line reads as, and its word; a peer of 4 is read, and refused as ill formed. -/
theorem assemblerExamples : Obligations.AssemblerExamples :=
  ⟨assemble_of_parse (r := ⟨.send, some 0x1234⟩) (by decide) (by decide),
    assemble_of_parse (r := ⟨.readMessage, some 2⟩) (by decide) (by decide),
    assemble_of_parse (r := ⟨.evSerial, none⟩) (by decide) (by decide),
    assemble_of_parse (r := ⟨.activate, none⟩) (by decide) (by decide),
    assemble_of_parse (r := ⟨.hasMessage, some 4⟩) (by decide) (by decide)⟩

/-! ### A reserved word -/

/-- With a request word waiting, a step performs it with the label taken off and the ghost list emptied (logs 4, 13). -/
theorem step_request {s : State} {w : ReqWord} {rest : List StepLabel} (hl : s.cfg.legal = true)
    (hin : s.inputs = .req w :: rest) : step s = performRequest w { s with inputs := rest, absorbed := [] } := by
  simp [step_eq_performLabel hl, nextLabel, stepStart, takeLabel, hin, performLabel]

/-- A word the decoder rejects answers 0x0000 and changes nothing (spec/30_encoding.md R103, spec/60_exceptions.md
R299). -/
theorem performRequest_reserved {w : ReqWord} {e : ReservedWord} (h : decode w = .error e) (s : State) :
    performRequest w s = .next { s with resp := 0x0000, absorbed := s.absorbed ++ [.reservedRequest] } := by
  simp [performRequest, h, reservedRequest, respond, absorb]

/-- Settles O9: in each of the three ways the decoder rejects the word. -/
theorem reservedWordDoesNothing : Obligations.ReservedWordDoesNothing := by
  intro s w rest hl hin hw
  have rejected : ∃ e, decode w = .error e := by
    rcases hw with ho | ⟨ho, harg⟩ | ⟨ho, hres⟩
    · exact ⟨_, decode_reservedOpcode ho⟩
    · obtain ⟨i, hi⟩ := operandlessInstr_isSome_of_mem ho
      exact ⟨_, (decode_operandless hi).trans (if_neg harg)⟩
    · simp only [List.mem_cons, List.not_mem_nil, or_false] at ho
      rcases ho with ho | ho
      · exact ⟨_, (decode_hasMessage ho).trans (if_neg hres)⟩
      · exact ⟨_, (decode_readMessage ho).trans (if_neg hres)⟩
  obtain ⟨e, he⟩ := rejected
  rw [step_request hl hin, performRequest_reserved he]
  rfl

end Sys2Proof.Machine
end

section
/-! The ring FIFO over histories of primitives (spec/40_fifo.md R126, R128): each primitive of the ring commutes with the
abstract queue's, so a history of the ring is one of the queue, and the queue's properties are the ring's. -/

namespace Sys2Proof.Machine

variable {C : Nat} {q : Ring} {xs : List Word}

/-! ### The ring refines the abstract queue -/

theorem ringAbs_push_eq_queuePush (h : ringWf C q = true) (v : Word) :
    ringAbs C (fifoPush C q v) = queuePush C (ringAbs C q) v := ringAbs_push h v

theorem fifoPop_eq_queuePop (h : ringWf C q = true) :
    (fifoPop C q).1 = (queuePop (ringAbs C q)).1 ∧ ringAbs C (fifoPop C q).2 = (queuePop (ringAbs C q)).2 := by
  cases hq : ringAbs C q with
  | nil =>
    rw [fifoPop_nil hq]
    exact ⟨rfl, hq⟩
  | cons x xs => exact fifoPop_cons h hq

/-- The commuting claim of R126, along a whole history. -/
theorem runRing_eq_runQueue (ops : List FifoOp) (h : ringWf C q = true) :
    (runRing C ops q).1 = (runQueue C ops (ringAbs C q)).1 ∧
      ringAbs C (runRing C ops q).2 = (runQueue C ops (ringAbs C q)).2 := by
  induction ops generalizing q with
  | nil => exact ⟨rfl, rfl⟩
  | cons op ops ih =>
    cases op with
    | push v =>
      rw [runRing, runQueue, ← ringAbs_push_eq_queuePush h]
      exact ih (fifoPush_wf h v)
    | pop =>
      obtain ⟨word, rest⟩ := fifoPop_eq_queuePop h
      obtain ⟨words, held⟩ := ih (fifoPop_wf h)
      rw [runRing, runQueue, ← word, ← rest]
      exact ⟨congrArg _ words, held⟩
    | clear =>
      rw [runRing, runQueue, ← ringAbs_clear (C := C) (q := q)]
      exact ih (fifoClear_wf h)

/-- Settles O43: every primitive commutes with the queue's and keeps the canonical form. -/
theorem ringRefinesQueue : Obligations.RingRefinesQueue := fun _ ops _ h =>
  ⟨(runRing_eq_runQueue ops h).1, (runRing_eq_runQueue ops h).2, runRing_wf ops h⟩

/-! ### The order of the popped words -/

/-- A push can lose the oldest word, and reorders none. -/
theorem queuePush_sublist (v : Word) : (queuePush C xs v).Sublist (xs ++ [v]) := by
  unfold queuePush
  split
  · exact .refl _
  · exact (List.tail_sublist xs).append_right [v]

/-- What is still to come out of a queue is among the words it holds, followed by those still to be pushed. -/
theorem runQueue_popped_sublist (ops : List FifoOp) :
    ((runQueue C ops xs).1.filter isRealValue).Sublist (xs ++ pushedWords ops) := by
  induction ops generalizing xs with
  | nil => exact List.nil_sublist _
  | cons op ops ih =>
    cases op with
    | push v =>
      have kept := (queuePush_sublist (C := C) (xs := xs) v).append_right (pushedWords ops)
      rw [List.append_assoc] at kept
      exact ih.trans kept
    | pop =>
      cases xs with
      | nil => exact ih
      | cons x xs =>
        rw [runQueue, List.filter_cons]
        split
        · exact ih.cons_cons x
        · exact ih.cons x
    | clear => exact ih.trans (List.sublist_append_right xs _)

/-- Settles O44: the ring pops what the queue pops, and the queue starts with no word of its own. A sentinel pushed would
be filtered out like `NO_DATA`, so the order does not rest on the pushed words being real. -/
theorem poppedWordsKeepPushOrder : Obligations.PoppedWordsKeepPushOrder := by
  intro C ops q h hq _
  rw [(runRing_eq_runQueue ops h).1, hq]
  exact runQueue_popped_sublist ops

/-! ### The most recent words -/

/-- A push keeps the last `C` words of the sequence with the new word behind it. -/
theorem queuePush_eq_drop (hC : 0 < C) (hx : xs.length ≤ C) (v : Word) :
    queuePush C xs v = (xs ++ [v]).drop (xs.length + 1 - C) := by
  unfold queuePush
  split
  · rw [show xs.length + 1 - C = 0 by omega, List.drop_zero]
  · rw [show xs.length + 1 - C = 1 by omega, List.drop_append_of_le_length (by omega), List.drop_one]

/-- Pushes keep the last `C` words of the sequence with the new words behind it. -/
theorem runQueue_pushes_eq_drop (hC : 0 < C) (vs : List Word) (hx : xs.length ≤ C) :
    (runQueue C (vs.map .push) xs).2 = (xs ++ vs).drop (xs.length + vs.length - C) := by
  induction vs generalizing xs with
  | nil => simp [runQueue, Nat.sub_eq_zero_of_le hx]
  | cons v vs ih =>
    have pushed := queuePush_eq_drop hC hx v
    have length : (queuePush C xs v).length = xs.length + 1 - (xs.length + 1 - C) := by simp [pushed]
    rw [List.map_cons, runQueue, ih (by omega), length, pushed,
      ← List.drop_append_of_le_length (by simp), List.drop_drop, List.append_assoc, List.singleton_append,
      List.length_cons]
    congr 1
    omega

/-- Settles O45: the empty queue after the pushes, read through the ring. -/
theorem pushesKeepMostRecent : Obligations.PushesKeepMostRecent := by
  intro C vs q h hq
  have hC : 0 < C := Nat.zero_lt_of_lt (ringWf_iff.mp h).2.1
  have held : ringAbs C (runRing C (vs.map .push) q).2 = vs.drop (vs.length - C) := by
    rw [(runRing_eq_runQueue _ h).2, hq, runQueue_pushes_eq_drop hC vs (xs := []) (Nat.zero_le C)]
    simp
  refine ⟨held, ?_⟩
  rw [held, List.length_drop]
  omega

/-- R128 whole: O44 and O45 are the two properties that the laws of the ring do not prove. -/
theorem fifoProperties (C : Nat) : FifoProperties C :=
  fifoProperties_of (poppedWordsKeepPushOrder C) (pushesKeepMostRecent C)

end Sys2Proof.Machine
end

section
/-! Lists of requests each with its RETIRE, and the run of missed ticks that evicts a silent peer
(spec/41_timeout_counter.md R143, R147). -/

namespace Sys2Proof.Machine

/-! ### A request and its RETIRE -/

/-- What an operation presented with its RETIRE leaves: the RETIRE, a step of its own, empties the ghost list again
(log 13). -/
def windowState (i : Instr) (s : State) : State :=
  retire { requestState i { s with absorbed := [] } with absorbed := [] }

theorem presentLabels_window {w : ReqWord} {i : Instr} (h : decode w = .ok i) (ls : List StepLabel) (s : State) :
    presentLabels (.req w :: .retire :: ls) s = presentLabels ls (windowState i s) := by
  simp only [presentLabels, presentLabel, performLabel, performRequest, h, exec_eq_next, windowState]

theorem presentLabels_replicate_window {w : ReqWord} {i : Instr} (h : decode w = .ok i) (n : Nat) (s : State) :
    presentLabels (List.replicate n [.req w, .retire]).flatten s = .next ((windowState i)^[n] s) := by
  induction n generalizing s with
  | zero => rfl
  | succ n ih =>
    rw [List.replicate_succ, List.flatten_cons, Function.iterate_succ_apply]
    exact (presentLabels_window h _ s).trans (ih _)

/-- A guarded operation that passes the guard leaves what its body does, with the window closed again
(spec/42_sync_mux.md R160, R162). -/
theorem windowState_pass {i : Instr} {s : State} (hi : Guarded i) (hg : guardPasses s = true) :
    windowState i s =
      { guardedBody i { s with absorbed := [], locked := true } with locked := false, absorbed := [] } := by
  have request : requestState i = issue (guardedBody i) := by
    cases i with
    | nop | activate | deactivate => exact hi.elim
    | send | isConnected | hasMessage | readMessage | evFrameSync | evSerial | evTimer => rfl
  have start : guardPasses { s with absorbed := [] } = true := hg
  rw [windowState, retire_spec, request, issue_pass _ start]

/-- After its window the next guarded operation passes the guard too. -/
theorem guardPasses_windowState {i : Instr} {s : State} (hi : Guarded i) (hg : guardPasses s = true) :
    guardPasses (windowState i s) = true := by
  have enabled : s.enabled = true := (Bool.and_eq_true_iff.mp hg).2
  rw [windowState_pass hi hg]
  exact (bodyFrame_guardedBody i _).enabled.trans enabled

/-! ### One serial-complete tick at one slot -/

@[simp] theorem secondaryReply_timeouts (s : State) : (secondaryReply s).timeouts = s.timeouts := by
  rcases secondaryReply_cases s with ⟨-, h⟩ | ⟨-, h⟩ <;> rw [h]
  rfl

@[simp] theorem secondaryReply_incoming (s : State) : (secondaryReply s).incoming = s.incoming := by
  rcases secondaryReply_cases s with ⟨-, h⟩ | ⟨-, h⟩ <;> rw [h]
  rfl

theorem serialBody_timeouts (s : State) (i : SlotId) :
    slotGet (serialBody s).timeouts i =
      counterAfter s.cfg.remoteTimeout (slotGet s.rxslot i) (slotGet s.timeouts i) := by
  obtain ⟨tos, inc, ab, h, htos, -⟩ := serialBody_spec s
  simpa [h] using htos i

theorem serialBody_incoming (s : State) (i : SlotId) :
    slotGet (serialBody s).incoming i =
      queueAfter s.cfg.queueCapacity s.cfg.remoteTimeout (i = s.currentPlayerId) (slotGet s.rxslot i)
        (slotGet s.timeouts i) (slotGet s.incoming i) := by
  obtain ⟨tos, inc, ab, h, -, hinc⟩ := serialBody_spec s
  simpa [h] using hinc i

/-- A missed tick of a live counter (spec/41_timeout_counter.md R143). -/
theorem counterAfter_missed (remoteTimeout n : Nat) :
    counterAfter remoteTimeout disconnectedWord (.live n) =
      if n + 1 ≥ remoteTimeout then .offline else .live (n + 1) := rfl

/-- A missed tick clears the queue with the eviction and not before. -/
theorem queueAfter_missed (C remoteTimeout n : Nat) (isOwn : Bool) (q : Ring) :
    queueAfter C remoteTimeout isOwn disconnectedWord (.live n) q =
      if n + 1 ≥ remoteTimeout then fifoClear q else q := by
  simp [queueAfter, evictedAt, isRealValue, isSentinel]

/-! ### A silent peer -/

/-- The peer of slot `i` has missed `n` ticks since `s` and is still live: what every further missed tick keeps. -/
structure MissedTicks (i : SlotId) (s : State) (n : Nat) (t : State) : Prop where
  cfg : t.cfg = s.cfg
  guard : guardPasses t = true
  silent : slotGet t.rxslot i = disconnectedWord
  counter : slotGet t.timeouts i = .live n
  queue : slotGet t.incoming i = slotGet s.incoming i

section
variable {i : SlotId} {s t : State} {n : Nat} (h : MissedTicks i s n t)
include h

/-- The slot's counter after one more tick, and the slot's queue. -/
theorem MissedTicks.window :
    slotGet (windowState .evSerial t).timeouts i =
        (if n + 1 ≥ s.cfg.remoteTimeout then .offline else .live (n + 1)) ∧
      slotGet (windowState .evSerial t).incoming i =
        if n + 1 ≥ s.cfg.remoteTimeout then fifoClear (slotGet s.incoming i) else slotGet s.incoming i := by
  rw [windowState_pass (i := .evSerial) trivial h.guard]
  refine ⟨(serialBody_timeouts _ i).trans ?_, (serialBody_incoming _ i).trans ?_⟩
  · simp only [h.cfg, h.silent, h.counter, counterAfter_missed]
  · simp only [h.cfg, h.silent, h.counter, h.queue, queueAfter_missed]

theorem MissedTicks.cfg_window : (windowState .evSerial t).cfg = s.cfg := by
  rw [windowState_pass (i := .evSerial) trivial h.guard]
  exact (bodyFrame_serialBody _).cfg.trans h.cfg

theorem MissedTicks.rxslot_window : (windowState .evSerial t).rxslot = t.rxslot := by
  rw [windowState_pass (i := .evSerial) trivial h.guard]
  exact (bodyFrame_serialBody _).transport.rxslot

/-- A tick short of the threshold is one more missed tick. -/
theorem MissedTicks.succ (below : n + 1 < s.cfg.remoteTimeout) :
    MissedTicks i s (n + 1) (windowState .evSerial t) := by
  obtain ⟨counter, queue⟩ := h.window
  rw [if_neg (by omega)] at counter queue
  exact ⟨h.cfg_window, guardPasses_windowState trivial h.guard, by rw [h.rxslot_window, h.silent], counter, queue⟩

/-- The tick that reaches the threshold evicts the peer (spec/41_timeout_counter.md R143, R147). -/
theorem MissedTicks.evicted (last : n + 1 = s.cfg.remoteTimeout) :
    slotGet (windowState .evSerial t).timeouts i = .offline ∧ inbox (windowState .evSerial t) i = [] := by
  obtain ⟨counter, queue⟩ := h.window
  rw [if_pos (by omega)] at counter queue
  exact ⟨counter, by rw [inbox, queue, ringAbs_clear]⟩

end

/-- A silent peer is still live as long as its missed ticks are fewer than `REMOTE_TIMEOUT`. -/
theorem MissedTicks.iterate {i : SlotId} {s : State} (h : MissedTicks i s 0 s) :
    ∀ n < s.cfg.remoteTimeout, MissedTicks i s n ((windowState .evSerial)^[n] s) := by
  intro n
  induction n with
  | zero => exact fun _ => h
  | succ n ih =>
    intro below
    rw [Function.iterate_succ_apply']
    exact (ih (by omega)).succ below

/-- Settles O58: the missed ticks are counted one by one up to the last one below `REMOTE_TIMEOUT`, and the next tick
evicts. -/
theorem evictionAfterRemoteTimeout : Obligations.EvictionAfterRemoteTimeout := by
  intro s i hs unlocked enabled counter silent
  have ticks (n : Nat) : presentLabels (List.replicate n [.req 0x90000, .retire]).flatten s =
      .next ((windowState .evSerial)^[n] s) := presentLabels_replicate_window (decode_encode .evSerial) n s
  have missed : ∀ n < s.cfg.remoteTimeout, MissedTicks i s n ((windowState .evSerial)^[n] s) :=
    MissedTicks.iterate ⟨rfl, by simp [guardPasses, unlocked, enabled], silent, counter, rfl⟩
  refine ⟨fun n below => ⟨_, ticks n, (missed n below).counter, (missed n below).queue⟩, _, ticks _, ?_⟩
  obtain ⟨k, hk⟩ := Nat.exists_eq_add_one.mpr (remoteTimeout_pos hs.legal)
  rw [hk, Function.iterate_succ_apply']
  exact (missed k (by omega)).evicted hk.symm

end Sys2Proof.Machine
end

section
/-! Which label a step takes and what it does with it, which steps have a next state, and how a run of the machine
presents the labels waiting in the model's own queue (spec/42_sync_mux.md R165, R170, R176). -/

namespace Sys2Proof.Machine

/-! ### A step by its label -/

/-- With a label waiting, a step presents it with the label taken off (log 4). -/
theorem step_waiting {s : State} {l : StepLabel} {rest : List StepLabel} (hl : s.cfg.legal = true)
    (hin : s.inputs = l :: rest) : step s = presentLabel l { s with inputs := rest } := by
  simp [step, hl, nextLabel, takeLabel, hin]

/-- A word the decoder accepts runs its operation. -/
theorem performRequest_decoded {w : ReqWord} {i : Instr} (h : decode w = .ok i) (s : State) :
    performRequest w s = exec i s := by
  simp [performRequest, h]

/-- The 24-bit table word of a request word presents that word (log 24). -/
theorem requestWordOfTable_toNat (w : ReqWord) : requestWordOfTable 24 w.toNat = w := by
  have small : w.toNat < 2 ^ 24 := Nat.lt_trans w.isLt (by decide)
  rw [requestWordOfTable, Nat.mod_eq_of_lt small, BitVec.ofNat_toNat, BitVec.setWidth_eq]

/-- Settles O8: the queue's head is the label, and a word placed by `withFetchWord` is that head. -/
theorem stepRunsDecodedInstruction : Obligations.StepRunsDecodedInstruction := by
  have waiting : ∀ (s : State) (w : ReqWord) (rest : List StepLabel) (i : Instr), s.cfg.legal = true →
      s.inputs = .req w :: rest → decode w = .ok i → step s = exec i { s with inputs := rest, absorbed := [] } :=
    fun s w rest i hl hin hw => (step_request hl hin).trans (performRequest_decoded hw _)
  refine ⟨waiting, fun s i hl => waiting (s.withFetchWord 24 (encode i).toNat) _ s.inputs i hl rfl ?_⟩
  rw [requestWordOfTable_toNat, decode_encode]

/-- Settles O12. -/
theorem retireEndsWindow : Obligations.RetireEndsWindow := by
  intro s rest hl hin _
  rw [step_waiting hl hin, presentLabel, performLabel, retire_spec]

/-- A list of labels has a result exactly when its first label has a next state and the others have that result from
there. -/
theorem presentLabels_cons_iff {l : StepLabel} {ls : List StepLabel} {s t : State} :
    presentLabels (l :: ls) s = .next t ↔ ∃ u, presentLabel l s = .next u ∧ presentLabels ls u = .next t := by
  rw [presentLabels]
  cases presentLabel l s with
  | next u => simp
  | fault | refused => simp

/-! ### Which steps have a next state -/

/-- A request always has a next state (spec/42_sync_mux.md R176). -/
theorem exists_performRequest (w : ReqWord) (s : State) : ∃ t, performRequest w s = .next t := by
  cases h : decode w with
  | ok i => exact ⟨_, (performRequest_decoded h s).trans (exec_eq_next i s)⟩
  | error e => exact ⟨_, performRequest_reserved h s⟩

section
variable {s : State} (u : ExtUpdate)

theorem performLabel_ext_refused (he : s.enabled = true) : performLabel (.ext u) s = .refused .ownershipBroken :=
  if_pos he

theorem performLabel_ext_inactive (he : s.enabled = false) : performLabel (.ext u) s = .next (extStep u s) :=
  if_neg (Bool.eq_false_iff.mp he)

end

/-- Every label but an external write while activated has a next state. -/
theorem exists_performLabel (l : StepLabel) (s : State) :
    (∃ t, performLabel l s = .next t) ∨
      ((∃ u, l = .ext u) ∧ s.enabled = true ∧ performLabel l s = .refused .ownershipBroken) := by
  cases l with
  | req w => exact .inl (exists_performRequest w s)
  | ext u =>
    cases he : s.enabled with
    | true => exact .inr ⟨⟨u, rfl⟩, rfl, performLabel_ext_refused u he⟩
    | false => exact .inl ⟨_, performLabel_ext_inactive u he⟩
  | retire | env | rst => exact .inl ⟨_, rfl⟩

/-- Settles O15: a step is its label performed in a state with the same activation flag. -/
theorem stepNeverFaults : Obligations.StepNeverFaults := by
  intro s hl
  rw [step_eq_performLabel hl, ← stepStart_enabled s]
  exact exists_performLabel (nextLabel s) (stepStart s)

/-! ### No label reads the queue of labels -/

/-- The state with another queue of labels waiting. The queue is the model's own and not the block's (log 4), so every
operation of the block commutes with this change. -/
def withInputs (q : List StepLabel) (s : State) : State := { s with inputs := q }

/-- The liveness pair as EV_SERIAL sets it (spec/44_event_handlers.md R207). -/
def noteSerial (s : State) : State := { s with irqFlag := true, irqTimeout := 0 }

/-- The writes of EV_SERIAL after its slot loop has answered a count and a state (R210, R211). -/
def recount (r : Nat × State) : State :=
  { r.2 with playerCount := BitVec.ofNat 3 r.1, currentPlayerId := ctrlId r.2.ctrl }

theorem serialBody_eq_slotLoop (s : State) :
    serialBody s =
      respond 0x0000 (secondaryReply (recount (slotLoop s.currentPlayerId slotIds 0 (noteSerial s)))) := by
  simp only [serialBody, noteSerial]
  generalize slotLoop _ _ _ _ = r
  rfl

section
variable (q : List StepLabel) (s : State)

theorem absorbIf_withInputs (b : Bool) (f : AbsorbedFault) :
    absorbIf b f (withInputs q s) = withInputs q (absorbIf b f s) := by
  cases b <;> rfl

theorem pushOutgoing_withInputs (v : Word) : pushOutgoing v (withInputs q s) = withInputs q (pushOutgoing v s) :=
  absorbIf_withInputs q { s with outgoing := fifoPush s.cfg.queueCapacity s.outgoing v } _ _

theorem sendBody_withInputs (v : Word) : sendBody v (withInputs q s) = withInputs q (sendBody v s) := by
  unfold sendBody
  cases isSentinel v
  · exact congrArg (respond 0x0000) (pushOutgoing_withInputs q s v)
  · rfl

theorem slotTick_withInputs (own i : SlotId) :
    slotTick own i (withInputs q s) = ((slotTick own i s).1, withInputs q (slotTick own i s).2) := by
  simp only [slotTick_spec, withInputs]

theorem slotLoop_withInputs (own : SlotId) (is : List SlotId) (cnt : Nat) (s : State) :
    slotLoop own is cnt (withInputs q s) = ((slotLoop own is cnt s).1, withInputs q (slotLoop own is cnt s).2) := by
  induction is generalizing cnt s with
  | nil => rfl
  | cons i is ih => simp only [slotLoop, slotTick_withInputs, ih]

theorem secondaryReply_withInputs : secondaryReply (withInputs q s) = withInputs q (secondaryReply s) := by
  rcases secondaryReply_cases s with ⟨h, e⟩ | ⟨h, e⟩ <;> rw [e]
  · exact if_pos h
  · exact if_neg (Bool.eq_false_iff.mp h)

theorem serialBody_withInputs : serialBody (withInputs q s) = withInputs q (serialBody s) := by
  have note : noteSerial (withInputs q s) = withInputs q (noteSerial s) := rfl
  have count (n : Nat) (u : State) : recount (n, withInputs q u) = withInputs q (recount (n, u)) := rfl
  rw [serialBody_eq_slotLoop, serialBody_eq_slotLoop, note, slotLoop_withInputs, count, secondaryReply_withInputs]
  rfl

theorem timerBody_withInputs : timerBody (withInputs q s) = withInputs q (timerBody s) := by
  cases hr : resetNeeded s with
  | true =>
    have hr' : resetNeeded (withInputs q s) = true := hr
    simp only [timerBody, hr, hr', if_true, absorbIf_withInputs]
    rfl
  | false =>
    have hr' : resetNeeded (withInputs q s) = false := hr
    have hn : sendNow (withInputs q s) = sendNow s := rfl
    simp only [timerBody, hr, hr', hn, Bool.false_eq_true, if_false]
    cases sendNow s <;> rfl

theorem guardedBody_withInputs (i : Instr) : guardedBody i (withInputs q s) = withInputs q (guardedBody i s) := by
  cases i with
  | send v => exact sendBody_withInputs q s v
  | evSerial => exact serialBody_withInputs q s
  | evTimer => exact timerBody_withInputs q s
  | nop | activate | deactivate | isConnected | hasMessage | readMessage | evFrameSync => rfl

theorem issue_withInputs (i : Instr) :
    issue (guardedBody i) (withInputs q s) = withInputs q (issue (guardedBody i) s) := by
  have same : guardPasses (withInputs q s) = guardPasses s := rfl
  cases hg : guardPasses s with
  | true =>
    rw [issue_pass _ (same.trans hg), issue_pass _ hg]
    exact guardedBody_withInputs q { s with locked := true } i
  | false =>
    rw [issue_skip _ (same.trans hg), issue_skip _ hg]
    rfl

theorem requestState_withInputs (i : Instr) : requestState i (withInputs q s) = withInputs q (requestState i s) := by
  cases i with
  | nop | activate | deactivate => rfl
  | send | isConnected | hasMessage | readMessage | evFrameSync | evSerial | evTimer => exact issue_withInputs q s _

end

theorem performRequest_withInputs {w : ReqWord} {s t : State} (h : performRequest w s = .next t)
    (q : List StepLabel) : performRequest w (withInputs q s) = .next (withInputs q t) := by
  cases hd : decode w with
  | ok i =>
    simp only [performRequest_decoded hd, exec_eq_next, Host.Outcome.next.injEq] at h ⊢
    rw [requestState_withInputs, h]
  | error e =>
    simp only [performRequest_reserved hd, Host.Outcome.next.injEq] at h ⊢
    rw [← h]
    rfl

/-- What a label does to the state does not depend on the labels that wait behind it. -/
theorem presentLabel_withInputs {l : StepLabel} {s t : State} (h : presentLabel l s = .next t) (q : List StepLabel) :
    presentLabel l (withInputs q s) = .next (withInputs q t) := by
  cases l with
  | req w => exact performRequest_withInputs h q
  | retire =>
    simp only [presentLabel, performLabel, retire_spec, Host.Outcome.next.injEq] at h ⊢
    rw [← h]
    rfl
  | env u | rst =>
    cases h
    rfl
  | ext u =>
    cases he : s.enabled with
    | true => cases (performLabel_ext_refused (s := { s with absorbed := [] }) u he).symm.trans h
    | false =>
      cases (performLabel_ext_inactive (s := { s with absorbed := [] }) u he).symm.trans h
      exact performLabel_ext_inactive u he

/-- A label leaves the queue as it finds it: only `step` takes labels off. -/
theorem inputs_of_presentLabel {l : StepLabel} {s t : State} (h : presentLabel l s = .next t) :
    withInputs s.inputs t = t := by
  have h' := presentLabel_withInputs h s.inputs
  exact (Host.Outcome.next.inj (h.symm.trans h')).symm

theorem run_core_succ {s u : State} (h : step s = .next u) (k : Nat) :
    Host.Core.run core (k + 1) s = Host.Core.run core k u := by
  have hstep : core.step s = .next u := h
  simp only [Host.Core.run, hstep]

/-- Settles O17, by induction on the labels: the machine's step takes off the label that `presentLabels` presents next,
and the labels still waiting do not influence it. -/
theorem runPresentsWaitingLabels : Obligations.RunPresentsWaitingLabels := by
  intro ls
  induction ls with
  | nil =>
    intro rest s t _ hin h
    subst hin
    exact h
  | cons l ls ih =>
    intro rest s t hl hin h
    obtain ⟨u, hu, htail⟩ := presentLabels_cons_iff.mp h
    have hstep : step s = .next (withInputs (ls ++ rest) u) :=
      (step_waiting hl hin).trans (presentLabel_withInputs hu (ls ++ rest))
    have hcfg : u.cfg = s.cfg := configurationNeverChanges s (withInputs (ls ++ rest) u) hstep
    have hrest : withInputs rest u = u := inputs_of_presentLabel hu
    exact (run_core_succ hstep ls.length).trans (ih rest _ t (hcfg ▸ hl) rfl (hrest.symm ▸ htail))

end Sys2Proof.Machine
end

section
/-! What the two outside writers do: the environment to the transport's inputs, the external owner to the fields the
owner writes (spec/42_sync_mux.md R171, R172). -/

namespace Sys2Proof.Machine

/-! ### Named writes of CTRL -/

/-- A field write that is made when the update names a value (spec/30_encoding.md R108; log 19). -/
def writeNamed {α : Type} (write : α → Word → Word) (value : Option α) (c : Word) : Word :=
  value.elim c fun a => write a c

section
variable {α β : Type} (read : Word → β) {write : α → Word → Word}

/-- A field no value of the write reaches is kept. -/
theorem read_writeNamed_other (other : ∀ a c, read (write a c) = read c) (value : Option α) (c : Word) :
    read (writeNamed write value c) = read c := by
  cases value with
  | none => rfl
  | some a => exact other a c

/-- The field written has the named value, as the write stores it, and keeps its own when none is named. -/
theorem read_writeNamed_self {stored : α → β} (self : ∀ a c, read (write a c) = stored a) (value : Option α)
    (c : Word) : read (writeNamed write value c) = (value.map stored).getD (read c) := by
  cases value with
  | none => rfl
  | some a => exact self a c

end

/-- The environment's writes of CTRL, each one of a field it names. -/
theorem envCtrl_eq (u : EnvUpdate) (c : Word) :
    envCtrl u c = writeNamed setCtrlStart u.start (writeNamed setCtrlError u.error (writeNamed setCtrlId u.id
      (writeNamed setCtrlReady u.ready (writeNamed setCtrlSecondary u.secondary c)))) := by
  unfold envCtrl
  cases u.secondary <;> cases u.ready <;> cases u.id <;> cases u.error <;> cases u.start <;> rfl

/-- The external owner's writes of CTRL, each one of a field it names. -/
theorem extCtrl_eq (u : ExtUpdate) (c : Word) :
    extCtrl u c =
      writeNamed setCtrlOther u.other (writeNamed setCtrlMulti u.multi (writeNamed setCtrlStart u.start c)) := by
  unfold extCtrl
  cases u.start <;> cases u.multi <;> cases u.other <;> rfl

/-! ### CTRL after an environment step -/

section
variable (u : EnvUpdate) (c : Word)

@[simp] theorem ctrlSecondary_envCtrl : ctrlSecondary (envCtrl u c) = u.secondary.getD (ctrlSecondary c) := by
  simp [envCtrl_eq, read_writeNamed_other ctrlSecondary, read_writeNamed_self ctrlSecondary (stored := id)]

@[simp] theorem ctrlReady_envCtrl : ctrlReady (envCtrl u c) = u.ready.getD (ctrlReady c) := by
  simp [envCtrl_eq, read_writeNamed_other ctrlReady, read_writeNamed_self ctrlReady (stored := id)]

@[simp] theorem ctrlId_envCtrl : ctrlId (envCtrl u c) = u.id.getD (ctrlId c) := by
  simp [envCtrl_eq, read_writeNamed_other ctrlId, read_writeNamed_self ctrlId (stored := id)]

@[simp] theorem ctrlError_envCtrl : ctrlError (envCtrl u c) = u.error.getD (ctrlError c) := by
  simp [envCtrl_eq, read_writeNamed_other ctrlError, read_writeNamed_self ctrlError (stored := id)]

@[simp] theorem ctrlStart_envCtrl : ctrlStart (envCtrl u c) = u.start.getD (ctrlStart c) := by
  simp [envCtrl_eq, read_writeNamed_other ctrlStart, read_writeNamed_self ctrlStart (stored := id)]

@[simp] theorem ctrlMulti_envCtrl : ctrlMulti (envCtrl u c) = ctrlMulti c := by
  simp [envCtrl_eq, read_writeNamed_other ctrlMulti]

@[simp] theorem ctrlOther_envCtrl : ctrlOther (envCtrl u c) = ctrlOther c := by
  simp [envCtrl_eq, read_writeNamed_other ctrlOther]

end

/-- Settles O54, by the fields of CTRL one by one. -/
theorem environmentStepResult : Obligations.EnvironmentStepResult :=
  fun s u _ hl hin => ⟨envCtrl u s.ctrl, step_waiting hl hin, ctrlSecondary_envCtrl u _, ctrlReady_envCtrl u _,
    ctrlId_envCtrl u _, ctrlError_envCtrl u _, ctrlStart_envCtrl u _, ctrlMulti_envCtrl u _, ctrlOther_envCtrl u _⟩

/-! ### CTRL after an external-owner step -/

section
variable (u : ExtUpdate) (c : Word)

@[simp] theorem ctrlStart_extCtrl : ctrlStart (extCtrl u c) = u.start.getD (ctrlStart c) := by
  simp [extCtrl_eq, read_writeNamed_other ctrlStart, read_writeNamed_self ctrlStart (stored := id)]

@[simp] theorem ctrlMulti_extCtrl : ctrlMulti (extCtrl u c) = u.multi.getD (ctrlMulti c) := by
  simp [extCtrl_eq, read_writeNamed_other ctrlMulti, read_writeNamed_self ctrlMulti (stored := id)]

/-- The external owner's word is masked to the bits of `CTRL.other` (spec/10_state.md R38; log 20). -/
@[simp] theorem ctrlOther_extCtrl :
    ctrlOther (extCtrl u c) = (u.other.map (· &&& ctrlOtherMask)).getD (ctrlOther c) := by
  simp [extCtrl_eq, read_writeNamed_other ctrlOther, read_writeNamed_self ctrlOther ctrlOther_setCtrlOther]

end

/-- Settles O55: the flag decides, and CTRL is read field by field. -/
theorem externalStepResult : Obligations.ExternalStepResult := by
  intro s u rest hl hin
  rw [step_waiting hl hin, presentLabel]
  refine ⟨fun he => performLabel_ext_refused u he, fun he => ⟨_, performLabel_ext_inactive u he, ?_⟩⟩
  have start : SameTransportOwned s { s with inputs := rest, absorbed := [] } := .of_registers rfl rfl
  have other : ctrlOther (extCtrl u s.ctrl) =
      match u.other with | some v => v &&& 0xDF03 | none => ctrlOther s.ctrl := by
    rw [ctrlOther_extCtrl]
    cases u.other <;> rfl
  exact ⟨by constructor <;> rfl, start.trans (extStep_transport u _), rfl, rfl, rfl, rfl, rfl, rfl,
    ctrlStart_extCtrl u _, ctrlMulti_extCtrl u _, other, rfl, rfl, rfl⟩

end Sys2Proof.Machine
end

section
/-! The lock window: a guarded request that passes the guard opens it, and inside it no request but ACTIVATE and
DEACTIVATE changes more than the response and the ghost list (spec/42_sync_mux.md R160, R161, R164). -/

namespace Sys2Proof.Machine

/-! ### Entering a window -/

theorem requestState_guarded {i : Instr} (hi : Guarded i) : requestState i = issue (guardedBody i) := by
  cases i with
  | nop | activate | deactivate => exact hi.elim
  | send | isConnected | hasMessage | readMessage | evFrameSync | evSerial | evTimer => rfl

/-- A guarded operation that passes the guard runs its body in the window it opens. -/
theorem requestState_pass {i : Instr} {s : State} (hi : Guarded i) (hg : guardPasses s = true) :
    requestState i s = guardedBody i { s with locked := true } := by
  rw [requestState_guarded hi, issue_pass _ hg]

theorem guardPasses_iff {s : State} : guardPasses s = true ↔ s.locked = false ∧ s.enabled = true := by
  simp [guardPasses]

/-- The three handlers answer 0x0000 (spec/44_event_handlers.md R205). -/
theorem guardedBody_resp_of_event {i : Instr} (hi : i = .evFrameSync ∨ i = .evSerial ∨ i = .evTimer) (s : State) :
    (guardedBody i s).resp = 0x0000 := by
  rcases hi with rfl | rfl | rfl
  · rfl
  · exact congrArg State.resp (serialBody_eq_slotLoop s)
  · rfl

/-- Settles O11: the body keeps both flags as the issue sets them. -/
theorem issueOpensLockWindow : Obligations.IssueOpensLockWindow := by
  intro i s hi hl he
  have frame := bodyFrame_guardedBody i { s with locked := true }
  refine ⟨requestState i s, exec_eq_next i s, ?_⟩
  rw [requestState_pass hi (guardPasses_iff.mpr ⟨hl, he⟩)]
  exact ⟨frame.locked, frame.enabled.trans he, frame.cfg, fun hev => guardedBody_resp_of_event hev _⟩

/-! ### Inside a window -/

/-- A state that differs in the response and the ghost list only: what a request leaves that does nothing
(spec/45_app_operations.md R236; spec/43_lifecycle.md R191). -/
def OnlyAnswers (s t : State) : Prop := ∃ r ab, t = { s with resp := r, absorbed := ab }

theorem OnlyAnswers.trans {s t u : State} (h : OnlyAnswers s t) (k : OnlyAnswers t u) : OnlyAnswers s u := by
  obtain ⟨_, _, rfl⟩ := h
  obtain ⟨r, ab, rfl⟩ := k
  exact ⟨r, ab, rfl⟩

theorem OnlyAnswers.sameMachine {s t : State} (h : OnlyAnswers s t) : SameMachine s t := by
  obtain ⟨r, ab, rfl⟩ := h
  constructor <;> rfl

theorem OnlyAnswers.sameRegisters {s t : State} (h : OnlyAnswers s t) : SameRegisters s t := by
  obtain ⟨r, ab, rfl⟩ := h
  constructor <;> rfl

theorem onlyAnswers_emptyGhost (s : State) : OnlyAnswers s { s with absorbed := [] } := ⟨s.resp, [], rfl⟩

/-- Inside a window NOP and every guarded operation only answer. -/
theorem onlyAnswers_requestState {i : Instr} {s : State} (hl : s.locked = true) (ha : i ≠ .activate)
    (hd : i ≠ .deactivate) : OnlyAnswers s (requestState i s) := by
  revert ha hd
  refine requestState_cases (P := fun j t => j ≠ .activate → j ≠ .deactivate → OnlyAnswers s t) ?nop
    (fun ha => absurd rfl ha) (fun _ hd => absurd rfl hd) ?guarded i
  case nop => exact fun _ _ => ⟨_, s.absorbed, rfl⟩
  case guarded =>
    intro j _ _ _
    have closed : guardPasses s = false := by simp [guardPasses, hl]
    exact ⟨_, _, issue_skip _ closed⟩

/-- Inside a window every request word but the two lifecycle words only answers. -/
theorem presentLabel_req_in_window {w : ReqWord} {s : State} (hl : s.locked = true) (hw : KeepsWindow (.req w)) :
    ∃ t, presentLabel (.req w) s = .next t ∧ OnlyAnswers s t := by
  obtain ⟨ha, hd⟩ := hw
  cases hi : decode w with
  | error e => exact ⟨_, performRequest_reserved hi _, _, _, rfl⟩
  | ok i =>
    refine ⟨_, (performRequest_decoded hi _).trans (exec_eq_next i _), (onlyAnswers_emptyGhost s).trans ?_⟩
    exact onlyAnswers_requestState hl (fun h => ha (hi.trans (congrArg _ h))) fun h => hd (hi.trans (congrArg _ h))

theorem SameMachine.refl (s : State) : SameMachine s s := by constructor <;> rfl

theorem SameMachine.trans {s t u : State} (h : SameMachine s t) (k : SameMachine t u) : SameMachine s u := by
  cases h
  cases k
  constructor <;> simp only [*]

/-- The environment writes the transport's fields and `start` only (spec/42_sync_mux.md R171). -/
theorem sameMachine_envStep (u : EnvUpdate) (s : State) : SameMachine s (envStep u s) := by
  constructor
  case multi => exact ctrlMulti_envCtrl u s.ctrl
  case other => exact ctrlOther_envCtrl u s.ctrl
  all_goals rfl

/-- Inside a window one label that keeps it has a next state and leaves the machine as it was. -/
theorem presentLabel_in_window {l : StepLabel} {s : State} (hl : s.locked = true) (h : KeepsWindow l) :
    ∃ t, presentLabel l s = .next t ∧ SameMachine s t := by
  cases l with
  | req w =>
    obtain ⟨t, ht, same⟩ := presentLabel_req_in_window hl h
    exact ⟨t, ht, same.sameMachine⟩
  | env u => exact ⟨_, rfl, (onlyAnswers_emptyGhost s).sameMachine.trans (sameMachine_envStep u _)⟩
  | retire | ext | rst => exact h.elim

/-- Settles O13, by induction on the labels: the window stays open. -/
theorem lockWindowDropsEverything : Obligations.LockWindowDropsEverything := by
  intro ls
  induction ls with
  | nil => exact fun s _ _ _ => ⟨s, rfl, .refl s⟩
  | cons l ls ih =>
    intro s hl he hk
    obtain ⟨hkl, hkls⟩ := List.forall_mem_cons.mp hk
    obtain ⟨u, hu, su⟩ := presentLabel_in_window hl hkl
    obtain ⟨t, ht, ut⟩ := ih u (su.locked.trans hl) (su.enabled.trans he) hkls
    exact ⟨t, presentLabels_cons_iff.mpr ⟨u, hu, ht⟩, su.trans ut⟩

/-! ### Requests that arrive together -/

theorem keepsWindow_of_guarded {w : ReqWord} {i : Instr} (hw : decode w = .ok i) (hi : Guarded i) :
    KeepsWindow (.req w) := by
  refine ⟨fun h => ?_, fun h => ?_⟩ <;> cases hw.symm.trans h <;> exact hi

/-- Words served inside a window only answer. -/
theorem serveWords_in_window {ws : List ReqWord} {s : State} (hl : s.locked = true)
    (hws : ∀ w ∈ ws, KeepsWindow (.req w)) : ∃ t, serveWords ws s = .next t ∧ OnlyAnswers s t := by
  induction ws generalizing s with
  | nil => exact ⟨s, rfl, s.resp, s.absorbed, rfl⟩
  | cons w ws ih =>
    obtain ⟨hw, hws⟩ := List.forall_mem_cons.mp hws
    obtain ⟨u, hu, su⟩ := presentLabel_req_in_window hl hw
    obtain ⟨t, ht, ut⟩ := ih (su.sameMachine.locked.trans hl) hws
    exact ⟨t, presentLabels_cons_iff.mpr ⟨u, hu, ht⟩, su.trans ut⟩

/-- Settles O14: the first word served opens the window the others find. -/
theorem simultaneousArrivalServesFirst : Obligations.SimultaneousArrivalServesFirst := by
  intro a w ws s _ hg hws
  obtain ⟨⟨i, hwi, hi⟩, hrest⟩ := List.forall_mem_cons.mp hws
  obtain ⟨hl, he⟩ := guardPasses_iff.mp hg
  obtain ⟨u, hu, hlu, -⟩ := issueOpensLockWindow i { s with absorbed := [] } hi hl he
  have first : presentLabel (.req w) s = .next u := (performRequest_decoded hwi _).trans hu
  have keep : ∀ v ∈ ws, KeepsWindow (.req v) := fun v hv =>
    let ⟨_, hvj, hj⟩ := hrest v hv
    keepsWindow_of_guarded hvj hj
  obtain ⟨t, ht, ut⟩ := serveWords_in_window hlu keep
  exact ⟨u, t, first, presentLabels_cons_iff.mpr ⟨u, first, ht⟩, ut.sameMachine, ut.sameRegisters⟩

end Sys2Proof.Machine
end

section
/-! The reference exchange as a function of the devices: every device has a result, and its registers are those the
transport wrote (spec/42_sync_mux.md R175; log 22). -/

namespace Sys2Proof.Machine

/-! ### EV_SERIAL leaves CTRL and the slots alone -/

theorem secondaryReply_ctrl (s : State) : (secondaryReply s).ctrl = s.ctrl := by
  rcases secondaryReply_cases s with ⟨-, h⟩ | ⟨-, h⟩ <;> rw [h]
  rfl

theorem serialBody_ctrl (s : State) : (serialBody s).ctrl = s.ctrl := by
  obtain ⟨tos, inc, ab, h, -, -⟩ := serialBody_spec s
  rw [h]
  exact secondaryReply_ctrl _

theorem requestState_evSerial_ctrl (s : State) : (requestState .evSerial s).ctrl = s.ctrl :=
  issue_cases (P := fun t => t.ctrl = s.ctrl) (fun _ => rfl) fun _ => serialBody_ctrl _

/-! ### One device -/

/-- What the transport writes at a device in an exchange: the words of all, `CTRL.start` cleared, its standing
inputs. -/
def exchangeUpdate (ws : Slots Word) (d : Device) : EnvUpdate :=
  { standingEnv d with rxslot := some ws, start := some false }

/-- The block of a device after an exchange: the transport's writes, then EV_SERIAL, with its RETIRE unless a lock
window was open already. -/
def exchangedState (ws : Slots Word) (d : Device) : State :=
  let s := envStep (exchangeUpdate ws d) { d.state with absorbed := [] }
  if d.state.locked then requestState .evSerial { s with absorbed := [] } else windowState .evSerial s

/-- Every device has a result: no step of the exchange is refused. -/
theorem exchangeAt_eq (ws : Slots Word) (d : Device) :
    exchangeAt ws d = some { d with state := exchangedState ws d } := by
  have env (ls : List StepLabel) : presentLabels (.env (exchangeUpdate ws d) :: ls) d.state =
      presentLabels ls (envStep (exchangeUpdate ws d) { d.state with absorbed := [] }) := rfl
  have decoded : decode 0x90000 = .ok .evSerial := decode_encode .evSerial
  have run : presentLabels (exchangeLabels ws d) d.state = .next (exchangedState ws d) := by
    refine (env _).trans ?_
    unfold exchangedState windowLabels
    cases d.state.locked with
    | true => exact presentLabels_cons_iff.mpr ⟨_, (performRequest_decoded decoded _).trans (exec_eq_next _ _), rfl⟩
    | false => exact presentLabels_window decoded [] _
  simp only [exchangeAt, run]

/-- An exchange leaves CTRL and the slots as the transport wrote them. -/
theorem exchangedState_registers (ws : Slots Word) (d : Device) :
    (exchangedState ws d).ctrl = envCtrl (exchangeUpdate ws d) d.state.ctrl ∧ (exchangedState ws d).rxslot = ws := by
  unfold exchangedState
  cases d.state.locked with
  | true => exact ⟨requestState_evSerial_ctrl _, (requestState_transport .evSerial _).rxslot⟩
  | false =>
    simp only [windowState, retire_spec]
    exact ⟨requestState_evSerial_ctrl _, (requestState_transport .evSerial _).rxslot⟩

/-! ### All devices -/

theorem exchange_eq_some_iff {ds ds' : List Device} :
    exchange ds = some ds' ↔ exchangeReady ds = true ∧
      ds' = ds.map fun d => { d with state := exchangedState (exchangeWords ds) d } := by
  have every : exchangeAt (exchangeWords ds) = fun d =>
      pure { d with state := exchangedState (exchangeWords ds) d } := funext (exchangeAt_eq _)
  rw [exchange, every, List.mapM_pure]
  cases exchangeReady ds with
  | true => simp [eq_comm]
  | false => simp

/-- Settles O59: every device after the exchange is one before it with the transport's writes of CTRL. -/
theorem exchangeDeliversWords : Obligations.ExchangeDeliversWords := by
  intro ds ds' h
  obtain ⟨-, rfl⟩ := exchange_eq_some_iff.mp h
  refine ⟨by simp, List.forall_mem_map.mpr fun d _ => ?_⟩
  obtain ⟨ctrl, rxslot⟩ := exchangedState_registers (exchangeWords ds) d
  simp [ctrl, rxslot, exchangeUpdate, standingEnv]

end Sys2Proof.Machine
end

section
/-! What ACTIVATE, DEACTIVATE, the hardware reset and NOP write, field by field, and that they write nothing else
(spec/43_lifecycle.md R187, R188, R191, R192). -/

namespace Sys2Proof.Machine

/-! ### What the shared writes leave, field by field -/

theorem ringCleared_fifoClear (C : Nat) (q : Ring) : RingCleared C q (fifoClear q) := ⟨ringAbs_clear, rfl, rfl⟩

theorem ringCleared_clearAll (C : Nat) (q : Slots Ring) (i : SlotId) :
    RingCleared C (slotGet q i) (slotGet (clearAll q) i) := by
  rw [slotGet_clearAll]
  exact ringCleared_fifoClear C _

theorem modeSelected_setModeSel (sel : BitVec 2) (m : Word) : ModeSelected sel m (setModeSel sel m) :=
  ⟨modeSel_setModeSel sel m, setModeSel_low sel m⟩

/-- A word whose bits under a mask are zero is unchanged when those bits are cleared. -/
theorem and_not_of_and_eq_zero {v m : Word} (h : v &&& m = 0#16) : v &&& ~~~m = v := by
  apply BitVec.eq_of_getLsbD_eq
  intro i hi
  have clear : (v.getLsbD i && m.getLsbD i) = false := by rw [← BitVec.getLsbD_and, h, BitVec.getLsbD_zero]
  rw [BitVec.getLsbD_and, BitVec.getLsbD_not]
  cases hv : v.getLsbD i <;> simp_all

/-- A legal `CFG_OTHER` word lies in the bits of `CTRL.other` (spec/10_state.md R40; log 3). -/
theorem cfgOtherWord_masked {c : Config} (h : c.legal = true) : cfgOtherWord c &&& ctrlOtherMask = cfgOtherWord c := by
  refine and_not_of_and_eq_zero (m := 0x20FC) ?_
  simp only [Config.legal, Config.cfgOtherLegal, Bool.and_eq_true, decide_eq_true_eq] at h
  obtain ⟨-, ⟨⟨h0, h1⟩, h2⟩, h3⟩ := h
  unfold cfgOtherWord
  rcases slotId_cases c.baud with hb | hb | hb | hb <;> rw [hb]
  exacts [h0, h1, h2, h3]

theorem ctrlConfigured_configureCtrl {c : Config} (h : c.legal = true) (w : Word) :
    CtrlConfigured c w (configureCtrl (cfgOtherWord c) w) := by
  unfold configureCtrl
  constructor
  case other => simpa using cfgOtherWord_masked h
  all_goals simp

/-! ### The lifecycle requests and the hardware reset -/

/-- Settles O18. -/
theorem nopDoesNothing : Obligations.NopDoesNothing :=
  ⟨decode_encode .nop, fun _ => rfl, fun s _ _ he => performRequest_reserved he s⟩

/-- Settles O19: the record of what ACTIVATE writes, its register and queue values read field by field. -/
theorem activateResult : Obligations.ActivateResult := by
  intro s hl
  refine ⟨configureCtrl (cfgOtherWord s.cfg) s.ctrl, setModeSel s.cfg.modeMulti s.mode, clearAll s.incoming,
    fifoClear s.outgoing, ?_, ctrlConfigured_configureCtrl hl _, modeSelected_setModeSel _ _,
    ringCleared_clearAll _ _, ringCleared_fifoClear _ _⟩
  rw [exec_eq_next, requestState, activateState_eq, List.append_assoc]
  rfl

/-- Settles O20, as O19. -/
theorem deactivateResult : Obligations.DeactivateResult := by
  intro s
  refine ⟨setModeSel s.cfg.modeGp s.mode, clearAll s.incoming, fifoClear s.outgoing, ?_,
    modeSelected_setModeSel _ _, ringCleared_clearAll _ _, ringCleared_fifoClear _ _⟩
  rw [exec_eq_next, requestState, deactivateState_eq, List.append_assoc]
  rfl

/-- Settles O23: the step is `hardReset`, whose queues are cleared ones. -/
theorem hardwareResetResult : Obligations.HardwareResetResult := fun s _ hl hin =>
  ⟨clearAll s.incoming, fifoClear s.outgoing, Config.freeWord s.draws, 0x0000, s.draws + 1, step_waiting hl hin,
    ringCleared_clearAll _ _, ringCleared_fifoClear _ _⟩

end Sys2Proof.Machine
end

section
/-! The session invariant: what it reads of a state, why an OFFLINE slot is empty after a serial-complete tick, and that
every step keeps it (spec/43_lifecycle.md R187, R188; spec/41_timeout_counter.md R147; spec/42_sync_mux.md R161, R170). -/

namespace Sys2Proof.Machine

/-! ### What it reads -/

/-- What `LinkConfigured` reads of a state. -/
def linkFields (s : State) : Config × BitVec 2 × Bool × Word × Word × Bool × Bool :=
  (s.cfg, modeSel s.mode, ctrlMulti s.ctrl, ctrlOther s.ctrl, s.tmrReload, s.tmrEn, s.tmrIrqEn)

theorem LinkConfigured.of_linkFields_eq {s t : State} (hs : LinkConfigured s) (h : linkFields t = linkFields s) :
    LinkConfigured t := by
  simp only [linkFields, Prod.mk.injEq] at h
  obtain ⟨cfg, sel, multi, other, reload, timerOn, timerIrq⟩ := h
  constructor
  case sel => rw [sel, cfg, hs.sel]
  case multi => rw [multi, hs.multi]
  case other => rw [other, cfg, hs.other]
  case reload => rw [reload, cfg, hs.reload]
  case timerOn => rw [timerOn, hs.timerOn]
  case timerIrq => rw [timerIrq, hs.timerIrq]

theorem inbox_congr {s t : State} (cfg : t.cfg = s.cfg) (incoming : t.incoming = s.incoming) (i : SlotId) :
    inbox t i = inbox s i := by
  rw [inbox, inbox, cfg, incoming]

/-- What `SessionAtReset` reads of a state. -/
def sessionFields (s : State) : Config × BitVec 3 × SlotId × Slots Ring × Ring × Slots Timeout × Bool × BitVec 8 :=
  (s.cfg, s.playerCount, s.currentPlayerId, s.incoming, s.outgoing, s.timeouts, s.irqFlag, s.irqTimeout)

theorem SessionAtReset.of_sessionFields_eq {s t : State} (hs : SessionAtReset s)
    (h : sessionFields t = sessionFields s) : SessionAtReset t := by
  simp only [sessionFields, Prod.mk.injEq] at h
  obtain ⟨cfg, playerCount, currentPlayerId, incoming, outgoing, timeouts, irqFlag, irqTimeout⟩ := h
  constructor
  case playerCount => rw [playerCount, hs.playerCount]
  case currentPlayerId => rw [currentPlayerId, hs.currentPlayerId]
  case incoming => exact fun i => (inbox_congr cfg incoming i).trans (hs.incoming i)
  case outgoing => rw [outbox, cfg, outgoing, ← outbox, hs.outgoing]
  case timeouts => rw [timeouts]; exact hs.timeouts
  case irqFlag => rw [irqFlag, hs.irqFlag]
  case irqTimeout => rw [irqTimeout, hs.irqTimeout]

/-- The invariant reads nothing but the machine's own fields: it does not see the transport's inputs, the response, the
ghost list or the labels waiting. -/
theorem SessionInv.of_sameMachine {s t : State} (hs : SessionInv s) (h : SameMachine s t) : SessionInv t := by
  constructor
  case lockedEnabled => rw [h.locked, h.enabled]; exact hs.lockedEnabled
  case inactive =>
    intro he
    refine (hs.inactive (h.enabled ▸ he)).of_sessionFields_eq ?_
    simp only [sessionFields, h.cfg, h.playerCount, h.currentPlayerId, h.incoming, h.outgoing, h.timeouts, h.irqFlag,
      h.irqTimeout]
  case active =>
    intro he
    refine (hs.active (h.enabled ▸ he)).of_linkFields_eq ?_
    simp only [linkFields, h.cfg, h.mode, h.multi, h.other, h.tmrReload, h.tmrEn, h.tmrIrqEn]
  case offlineEmpty =>
    intro i hi
    rw [h.timeouts] at hi
    exact (inbox_congr h.cfg h.incoming i).trans (hs.offlineEmpty i hi)
  case fresh => rw [h.irqFlag, h.irqTimeout]; exact hs.fresh

/-- Of an activated block the invariant says three things; the other two clauses are about a block that is not. -/
theorem sessionInv_of_active {s : State} (he : s.enabled = true) (link : LinkConfigured s)
    (offlineEmpty : ∀ i, slotGet s.timeouts i = .offline → inbox s i = [])
    (fresh : s.irqFlag = true → s.irqTimeout = 0) : SessionInv s where
  lockedEnabled _ := he
  inactive h := by simp [he] at h
  active _ := link
  offlineEmpty := offlineEmpty
  fresh := fresh

/-- A session at its reset values meets the clauses about queues and about the liveness pair. -/
theorem sessionInv_of_active_atReset {s : State} (he : s.enabled = true) (link : LinkConfigured s)
    (hr : SessionAtReset s) : SessionInv s :=
  sessionInv_of_active he link (fun i _ => hr.incoming i) fun _ => hr.irqTimeout

/-! ### A slot that goes or stays offline -/

/-- After a tick a counter is OFFLINE when the tick evicted it, or when it was OFFLINE and no real value came
(spec/41_timeout_counter.md R143 to R145). -/
theorem counterAfter_eq_offline {remoteTimeout : Nat} {r : Word} {t : Timeout}
    (h : counterAfter remoteTimeout r t = .offline) :
    evictedAt remoteTimeout r t = true ∨ (t = .offline ∧ isRealValue r = false) := by
  unfold counterAfter at h
  split_ifs at h with hd h0
  · cases t with
    | offline => exact .inr ⟨rfl, by simp [isRealValue, isSentinel, hd]⟩
    | live n =>
      left
      simpa [evictedAt, hd] using h
  · cases t with
    | offline => exact .inr ⟨rfl, by simp [isRealValue, isSentinel, h0]⟩
    | live n => cases h

/-- A slot OFFLINE after a tick has an empty FIFO: the eviction cleared it, or it was OFFLINE already and nothing was
queued (spec/41_timeout_counter.md R147). -/
theorem ringAbs_queueAfter_of_offline {C remoteTimeout : Nat} {isOwn : Bool} {r : Word} {t : Timeout} {q : Ring}
    (hq : t = .offline → ringAbs C q = []) (h : counterAfter remoteTimeout r t = .offline) :
    ringAbs C (queueAfter C remoteTimeout isOwn r t q) = [] := by
  rcases counterAfter_eq_offline h with hev | ⟨rfl, hr⟩
  · simp [queueAfter, hev]
  · simpa [queueAfter, evictedAt, hr] using hq rfl

/-! ### The shared operations keep it -/

/-- The forced reset and ACTIVATE configure the link with the same writes (spec/43_lifecycle.md R187, R189). -/
theorem linkConfigured_forcedReset {s : State} (hl : s.cfg.legal = true) : LinkConfigured (forcedReset s) := by
  have ctrl := ctrlConfigured_configureCtrl hl s.ctrl
  exact ⟨modeSel_setModeSel _ _, ctrl.multi, ctrl.other, rfl, rfl, rfl⟩

theorem sessionInv_forcedReset {s : State} (hl : s.cfg.legal = true) (he : s.enabled = true) :
    SessionInv (forcedReset s) :=
  sessionInv_of_active_atReset he (linkConfigured_forcedReset hl) (sessionAtReset_of_resetSession_eq rfl)

theorem sessionInv_activateState {s : State} (hl : s.cfg.legal = true) : SessionInv (activateState s) :=
  sessionInv_of_active_atReset rfl ((linkConfigured_forcedReset hl).of_linkFields_eq rfl)
    (sessionAtReset_of_resetSession_eq rfl)

theorem sessionInv_deactivateState (s : State) : SessionInv (deactivateState s) :=
  sessionInv_of_inactive rfl rfl (sessionAtReset_of_resetSession_eq rfl)

theorem sessionInv_hardReset (s : State) : SessionInv (hardReset s) :=
  sessionInv_of_inactive rfl rfl (sessionAtReset_hardReset s)

/-- What the invariant reads of an activated block, but for the queues and the lock. -/
def activeFields (s : State) :
    Bool × (Config × BitVec 2 × Bool × Word × Word × Bool × Bool) × Slots Timeout × Bool × BitVec 8 :=
  (s.enabled, linkFields s, s.timeouts, s.irqFlag, s.irqTimeout)

section
variable {s : State} (hs : SessionInv s)
include hs

/-- A body that only moves words between queues and registers keeps the invariant when it puts none in an empty slot. -/
theorem SessionInv.of_activeFields_eq {t : State} (he : s.enabled = true) (h : activeFields t = activeFields s)
    (emptied : ∀ i, inbox s i = [] → inbox t i = []) : SessionInv t := by
  simp only [activeFields, Prod.mk.injEq] at h
  obtain ⟨enabled, link, timeouts, irqFlag, irqTimeout⟩ := h
  refine sessionInv_of_active (enabled.trans he) ((hs.active he).of_linkFields_eq link) (fun i hi => ?_) ?_
  · rw [timeouts] at hi
    exact emptied i (hs.offlineEmpty i hi)
  · rw [irqFlag, irqTimeout]
    exact hs.fresh

theorem SessionInv.of_onlyAnswers {t : State} (h : OnlyAnswers s t) : SessionInv t := hs.of_sameMachine h.sameMachine

theorem SessionInv.respond (v : Word) : SessionInv (respond v s) := hs.of_onlyAnswers ⟨v, s.absorbed, rfl⟩

/-- The lock may be taken while activated (spec/42_sync_mux.md R160). -/
theorem SessionInv.lock (he : s.enabled = true) : SessionInv { s with locked := true } :=
  hs.of_activeFields_eq he rfl fun _ => id

/-- Giving the lock back touches nothing else (spec/42_sync_mux.md R162). -/
theorem SessionInv.retire : SessionInv (retire s) := by
  rw [retire_spec]
  constructor
  case lockedEnabled => exact fun h => absurd h Bool.false_ne_true
  case inactive => exact fun he => (hs.inactive he).of_sessionFields_eq rfl
  case active => exact fun he => (hs.active he).of_linkFields_eq rfl
  case offlineEmpty => exact hs.offlineEmpty
  case fresh => exact hs.fresh

theorem SessionInv.sendBody (he : s.enabled = true) (v : Word) : SessionInv (sendBody v s) := by
  rcases sendBody_cases v s with ⟨-, h⟩ | ⟨-, h⟩ <;> rw [h]
  · exact hs.of_onlyAnswers ⟨_, _, rfl⟩
  · refine SessionInv.respond (hs.of_activeFields_eq he ?_ fun i => ?_) _
    · simp [activeFields, linkFields]
    · simp [inbox]

theorem SessionInv.readMessageBody (he : s.enabled = true) (p : SlotId) : SessionInv (readMessageBody p s) := by
  refine hs.of_activeFields_eq he rfl fun i hi => ?_
  show ringAbs s.cfg.queueCapacity
    (slotGet (slotSet s.incoming p (fifoPop s.cfg.queueCapacity (slotGet s.incoming p)).2) i) = []
  rw [slotGet_slotSet]
  split
  · next hip =>
    subst hip
    rw [fifoPop_nil hi]
    exact hi
  · exact hi

/-- A frame-sync tick clears the serial flag, so the staleness counter may move (spec/44_event_handlers.md R206). -/
theorem SessionInv.frameSyncBody (he : s.enabled = true) : SessionInv (frameSyncBody s) :=
  sessionInv_of_active he ((hs.active he).of_linkFields_eq rfl) hs.offlineEmpty
    fun h => absurd h Bool.false_ne_true

theorem SessionInv.secondaryReply (he : s.enabled = true) : SessionInv (secondaryReply s) := by
  rcases secondaryReply_cases s with ⟨-, h⟩ | ⟨-, h⟩ <;> rw [h]
  · exact hs.of_activeFields_eq he rfl fun _ => id
  · exact hs

theorem SessionInv.serialBody (he : s.enabled = true) : SessionInv (serialBody s) := by
  obtain ⟨tos, inc, ab, h, htos, hinc⟩ := serialBody_spec s
  rw [h]
  refine SessionInv.respond (SessionInv.secondaryReply ?ticked ?enabled) 0x0000
  case enabled => exact he
  case ticked =>
    refine sessionInv_of_active he ((hs.active he).of_linkFields_eq rfl) (fun i hi => ?_) fun _ => rfl
    rw [htos] at hi
    rw [inbox, hinc]
    exact ringAbs_queueAfter_of_offline (hs.offlineEmpty i) hi

/-- A send writes `TXDATA` and `CTRL.start`, which are no part of the link's configuration (spec/42_sync_mux.md R167). -/
theorem SessionInv.sendNext (he : s.enabled = true) : SessionInv (startExchange (nextOut s).1 (nextOut s).2) := by
  refine hs.of_activeFields_eq he ?_ fun _ => id
  simp [activeFields, linkFields, nextOut_spec]

theorem SessionInv.timerBody (hl : s.cfg.legal = true) (he : s.enabled = true) : SessionInv (timerBody s) := by
  rcases timerBody_cases s with ⟨-, ab, h⟩ | ⟨-, -, h⟩ | ⟨-, -, h⟩ <;> rw [h]
  · refine SessionInv.respond (sessionInv_forcedReset ?legal ?enabled) _
    exacts [hl, he]
  · exact SessionInv.respond (hs.sendNext he) _
  · exact hs.respond _

theorem SessionInv.guardedBody (hl : s.cfg.legal = true) (he : s.enabled = true) (i : Instr) :
    SessionInv (guardedBody i s) := by
  cases i with
  | send v => exact hs.sendBody he v
  | readMessage p => exact hs.readMessageBody he p
  | evFrameSync => exact hs.frameSyncBody he
  | evSerial => exact hs.serialBody he
  | evTimer => exact hs.timerBody hl he
  | isConnected | hasMessage => exact hs.respond _
  | nop | activate | deactivate => exact hs

theorem SessionInv.requestState (hl : s.cfg.legal = true) (i : Instr) : SessionInv (requestState i s) := by
  refine requestState_cases (P := fun _ t => SessionInv t) (hs.respond _) (sessionInv_activateState hl)
    (sessionInv_deactivateState s) (fun j _ => ?_) i
  refine issue_cases (fun _ => hs.of_onlyAnswers ⟨_, _, rfl⟩) fun hg => ?_
  obtain ⟨-, he⟩ := guardPasses_iff.mp hg
  exact (hs.lock he).guardedBody hl he j

/-- The external owner writes no session field, and the link only while the block is Inactive (spec/42_sync_mux.md R170,
R172). -/
theorem SessionInv.extStep (he : s.enabled = false) (u : ExtUpdate) : SessionInv (extStep u s) := by
  constructor
  case lockedEnabled => exact hs.lockedEnabled
  case inactive => exact fun _ => (hs.inactive he).of_sessionFields_eq rfl
  case active => exact fun h => absurd h (Bool.eq_false_iff.mp he)
  case offlineEmpty => exact hs.offlineEmpty
  case fresh => exact hs.fresh

end

/-- Settles O47: a step is a request, whose outcome keeps the invariant behind the guard and resets the session outside
it, or one of the outside writers, each of which leaves the fields the invariant reads or resets the session. -/
theorem stepKeepsSession : Obligations.StepKeepsSession := by
  intro s t storage hs hstep
  have start : SessionInv (stepStart s) := hs.of_sameMachine (by rw [stepStart_eq]; constructor <;> rfl)
  cases StepOutcome.of_step hstep with
  | request w i => exact start.requestState ((congrArg Config.legal (stepStart_cfg s)).trans storage.legal) i
  | reserved => exact start.of_onlyAnswers ⟨_, _, rfl⟩
  | retire => exact start.retire
  | env u => exact start.of_sameMachine (sameMachine_envStep u _)
  | ext u _ inactive => exact start.extStep ((stepStart_enabled s).trans inactive) u
  | rst => exact sessionInv_hardReset _

end Sys2Proof.Machine
end

section
/-! The serial-complete tick: what one slot's counter and queue become by the class of the word read, the count of the
detected slots, the reply, and that the slots may be visited in any order (spec/44_event_handlers.md R207 to R212). -/

namespace Sys2Proof.Machine

/-! ### A guarded operation that passes the guard -/

theorem exec_pass {i : Instr} (hi : Guarded i) {s : State} (hl : s.locked = false) (he : s.enabled = true) :
    exec i s = .next (guardedBody i { s with locked := true }) := by
  rw [exec_eq_next, requestState_pass hi (guardPasses_iff.mpr ⟨hl, he⟩)]

/-! ### One slot, by the class of the word read (R208) -/

section
variable (C remoteTimeout : Nat) (isOwn : Bool) (t : Timeout) (q : Ring)

theorem queueAfter_disconnected_offline : queueAfter C remoteTimeout isOwn disconnectedWord .offline q = q := rfl

theorem counterAfter_noData :
    counterAfter remoteTimeout noDataWord t = if t = .offline then .offline else .live 0 := by
  cases t <;> rfl

theorem queueAfter_noData : queueAfter C remoteTimeout isOwn noDataWord t q = q := by
  cases t <;> rfl

variable {r : Word} (hd : r ≠ disconnectedWord) (h0 : r ≠ noDataWord)
include hd h0

theorem counterAfter_real : counterAfter remoteTimeout r t = .live 0 := by
  simp only [counterAfter, hd, h0, if_false]

/-- A real value evicts nobody; it is queued unless it is the device's own (R208, R209). -/
theorem queueAfter_real : queueAfter C remoteTimeout isOwn r t q = if isOwn = true then q else fifoPush C q r := by
  have kept : evictedAt remoteTimeout r t = false := by
    cases t with
    | offline => rfl
    | live n => simp [evictedAt, hd]
  have real : isRealValue r = true := by simp [isRealValue, isSentinel, hd, h0]
  cases isOwn <;> simp [queueAfter, kept, real]

end

/-- Settles O26: each class of word has its counter and its queue. -/
theorem serialTickSlotTable : Obligations.SerialTickSlotTable := by
  intro s hl he hw
  refine ⟨_, exec_pass (i := .evSerial) trivial hl he, fun i => ?_⟩
  have counter := serialBody_timeouts { s with locked := true } i
  have queue := serialBody_incoming { s with locked := true } i
  have cfg := (bodyFrame_serialBody { s with locked := true }).cfg
  simp only [guardedBody, inbox, counter, queue, cfg]
  refine ⟨fun hr ht => ?offline, fun n (hr : slotGet s.rxslot i = disconnectedWord) ht below => ?missed,
    fun n (hr : slotGet s.rxslot i = disconnectedWord) ht last => ?evicted, fun hr => ?noData,
    fun hd h0 => ⟨?live, fun other => ?pushed, fun own => ?own⟩⟩
  case offline =>
    rw [hr, ht]
    exact ⟨rfl, queueAfter_disconnected_offline ..⟩
  case missed =>
    rw [hr, ht, counterAfter_missed, queueAfter_missed, if_neg (by omega), if_neg (by omega)]
    exact ⟨rfl, rfl⟩
  case evicted =>
    rw [hr, ht, counterAfter_missed, queueAfter_missed, if_pos last, if_pos last]
    exact ⟨rfl, ringCleared_fifoClear _ _⟩
  case noData =>
    rw [hr]
    exact ⟨counterAfter_noData .., queueAfter_noData ..⟩
  case live => exact counterAfter_real _ _ hd h0
  case pushed =>
    rw [queueAfter_real _ _ _ _ _ hd h0, if_neg (by simpa using other)]
    exact ⟨ringAbs_push_eq_queuePush (hw.1 i) _, fun j hj => fifoPush_mem_other _ j hj⟩
  case own => rw [queueAfter_real _ _ _ _ _ hd h0, if_pos (by simpa using own)]

/-! ### The count of the detected slots -/

/-- Four slots are counted, so three bits hold the count (R210). -/
theorem detectedCount_toNat (p : SlotId → Bool) :
    (BitVec.ofNat 3 (slotIds.filter p).length).toNat = (slotIds.filter p).length := by
  have hle : (slotIds.filter p).length ≤ 4 := List.length_filter_le p slotIds
  rw [BitVec.toNat_ofNat, Nat.mod_eq_of_lt (by omega)]

/-- The reply writes `outgoing`, `TXDATA` and the trace only (R212). -/
theorem secondaryReply_eq (s : State) :
    ∃ out tx tr, secondaryReply s = { s with outgoing := out, txdata := tx, trace := tr } := by
  rcases secondaryReply_cases s with ⟨-, h⟩ | ⟨-, h⟩ <;> rw [h] <;> exact ⟨_, _, _, rfl⟩

/-- The slots counted are those `detectedAt` calls detected: their counter is read after the tick. -/
theorem serialBody_playerCount (s : State) :
    (serialBody s).playerCount = BitVec.ofNat 3 (slotIds.filter (detectedAt s (serialBody s))).length := by
  have detected : detectedAt s (serialBody s) = fun i =>
      detectedAfter s.cfg.remoteTimeout (slotGet s.rxslot i) (slotGet s.timeouts i) :=
    funext fun i => by rw [detectedAt, serialBody_timeouts, detectedAfter]
  obtain ⟨tos, inc, ab, h, -, -⟩ := serialBody_spec s
  rw [detected, h]
  obtain ⟨out, tx, tr, reply⟩ := secondaryReply_eq _
  rw [reply]
  rfl

/-- Settles O27. -/
theorem serialTickCountsDetectedSlots : Obligations.SerialTickCountsDetectedSlots := by
  intro s hl he
  refine ⟨_, exec_pass (i := .evSerial) trivial hl he, ?_⟩
  have count : (serialBody { s with locked := true }).playerCount = _ := serialBody_playerCount _
  constructor
  · exact (congrArg BitVec.toNat count).trans (detectedCount_toNat _)
  · exact (congrArg BitVec.toNat count).trans_le (detectedCount_le _)

/-! ### The other registers, and the reply -/

/-- Settles O28: neither the slot loop nor the reply writes one of these fields. -/
theorem serialTickRereadsId : Obligations.SerialTickRereadsId := by
  intro s hl he
  refine ⟨_, exec_pass (i := .evSerial) trivial hl he, ?_⟩
  obtain ⟨tos, inc, ab, h, -, -⟩ := serialBody_spec { s with locked := true }
  obtain ⟨out, tx, tr, reply⟩ := secondaryReply_eq _
  rw [guardedBody, h, reply]
  exact ⟨rfl, rfl, rfl, rfl, rfl, he, rfl, rfl, rfl, rfl, rfl, rfl, rfl, rfl, rfl, rfl⟩

/-- Settles O29: the slot loop leaves role, queue and trace for the reply to read. -/
theorem secondaryRepliesAtSerialTick : Obligations.SecondaryRepliesAtSerialTick := by
  intro s hl he hw
  refine ⟨_, exec_pass (i := .evSerial) trivial hl he, ?_⟩
  obtain ⟨tos, inc, ab, h, -, -⟩ := serialBody_spec { s with locked := true }
  obtain ⟨word, rest⟩ := fifoPop_eq_queuePop hw.2
  rw [guardedBody, h]
  rcases secondaryReply_cases _ with ⟨role, reply⟩ | ⟨role, reply⟩ <;> rw [reply]
  · have role : ctrlSecondary s.ctrl = true := role
    exact ⟨fun _ => ⟨word, rest, fifoPop_mem, congrArg (fun v => s.trace ++ [.txWrite v]) word, rfl⟩,
      fun primary => absurd (role.symm.trans primary) (by decide)⟩
  · have role : ctrlSecondary s.ctrl = false := role
    exact ⟨fun secondary => absurd (role.symm.trans secondary) (by decide), fun _ => ⟨rfl, rfl, rfl⟩⟩

/-! ### The order of the slots -/

/-- Settles O30: over distinct slots the loop's result is said slot by slot and by a count, and neither depends on the
order. -/
theorem slotOrderDoesNotMatter : Obligations.SlotOrderDoesNotMatter := by
  intro own is n s hp
  obtain ⟨tos, inc, ab, h, htos, hinc⟩ := slotLoop_spec own is (hp.nodup_iff.mpr (by decide)) n s
  obtain ⟨tos', inc', ab', h', htos', hinc'⟩ := slotLoop_spec own [0, 1, 2, 3] (by decide) n s
  have counters : tos = tos' := slots_ext fun i => by simp only [htos, htos', hp.mem_iff]
  have queues : inc = inc' := slots_ext fun i => by simp only [hinc, hinc', hp.mem_iff]
  rw [h, h', counters, queues]
  exact ⟨congrArg (n + ·) (hp.filter _).length_eq, rfl⟩

end Sys2Proof.Machine
end

section
/-! The frame-sync and the timer tick: each as a record of what it writes, the two conditions of the timer tick in the
words of the spec, and how the missed frames of a stalled transport add up (spec/44_event_handlers.md R206, R213 to
R217). -/

namespace Sys2Proof.Machine

/-! ### The frame-sync tick -/

/-- The staleness counter is eight bits that stop at 255 (R206). -/
theorem bumpStaleness_toNat (n : BitVec 8) : (bumpStaleness n).toNat = min (n.toNat + 1) 255 := by
  rw [bumpStaleness, BitVec.toNat_ofNat, Nat.mod_eq_of_lt (by omega)]

/-- Settles O25: what the body writes is a record; the count is its staleness counter. -/
theorem frameSyncResult : Obligations.FrameSyncResult := by
  intro s hl he
  refine ⟨_, exec_pass (i := .evFrameSync) trivial hl he, ?_⟩
  cases hf : s.irqFlag with
  | true => simp
  | false => simpa using bumpStaleness_toNat s.irqTimeout

/-! ### The conditions of the timer tick -/

theorem transportErrorReported_iff {s : State} :
    transportErrorReported s = true ↔ ctrlReady s.ctrl = true ∧ ctrlError s.ctrl = true := Bool.and_eq_true_iff

theorem stallReported_iff {s : State} : stallReported s = true ↔ s.cfg.tickThreshold < s.irqTimeout.toNat :=
  decide_eq_true_iff

theorem resetNeeded_iff {s : State} :
    resetNeeded s = true ↔
      (ctrlReady s.ctrl = true ∧ ctrlError s.ctrl = true) ∨ s.cfg.tickThreshold < s.irqTimeout.toNat := by
  rw [resetNeeded, Bool.or_eq_true, transportErrorReported_iff, stallReported_iff]

theorem resetNeeded_eq_false {s : State} (noError : ¬(ctrlReady s.ctrl = true ∧ ctrlError s.ctrl = true))
    (noStall : s.irqTimeout.toNat ≤ s.cfg.tickThreshold) : resetNeeded s = false := by
  rw [Bool.eq_false_iff, ne_eq, resetNeeded_iff]
  exact not_or.mpr ⟨noError, Nat.not_lt.mpr noStall⟩

theorem sendNow_iff {s : State} :
    sendNow s = true ↔ ctrlSecondary s.ctrl = false ∧ ctrlReady s.ctrl = true ∧ ctrlStart s.ctrl = false := by
  simp [sendNow, isPrimary, and_assoc]

/-! ### The three outcomes of the timer tick -/

/-- The faults a reset at a timer tick notes, in the order of log 13. -/
def resetFaults (s : State) : List AbsorbedFault :=
  (if transportErrorReported s = true then [.transportError] else []) ++
    if stallReported s = true then [.stall] else []

theorem absorbIf_eq (b : Bool) (f : AbsorbedFault) (s : State) :
    absorbIf b f s = { s with absorbed := s.absorbed ++ if b = true then [f] else [] } := by
  cases b
  · simp [absorbIf]
  · rfl

theorem timerBody_reset {s : State} (h : resetNeeded s = true) :
    timerBody s = respond 0x0000 (forcedReset { s with absorbed := s.absorbed ++ resetFaults s }) := by
  simp only [timerBody, h, if_true, resetFaults, absorbIf_eq, List.append_assoc]

theorem timerBody_send {s : State} (hr : resetNeeded s = false) (hn : sendNow s = true) :
    timerBody s = respond 0x0000 (startExchange (nextOut s).1 (nextOut s).2) := by
  simp [timerBody, hr, hn]

theorem timerBody_idle {s : State} (hr : resetNeeded s = false) (hn : sendNow s = false) :
    timerBody s = respond 0x0000 s := by
  simp [timerBody, hr, hn]

/-- Without a reset a timer tick may send, which is no matter of the liveness count or of the inbound side (R214). -/
theorem timerBody_inbound {s : State} (hr : resetNeeded s = false) :
    (timerBody s).irqTimeout = s.irqTimeout ∧ (timerBody s).incoming = s.incoming ∧
      (timerBody s).timeouts = s.timeouts := by
  cases hn : sendNow s with
  | true =>
    rw [timerBody_send hr hn]
    exact ⟨rfl, rfl, rfl⟩
  | false =>
    rw [timerBody_idle hr hn]
    exact ⟨rfl, rfl, rfl⟩

theorem ctrlStarted_setCtrlStart (c : Word) : CtrlStarted c (setCtrlStart true c) :=
  ⟨ctrlStart_setCtrlStart true c, writeField_and_of_disjoint _ _ _ _ (by decide)⟩

/-- Settles O31: the record of the forced reset, its register and queue values read field by field. -/
theorem timerTickForcesReset : Obligations.TimerTickForcesReset := by
  intro s hc hl he hr
  refine ⟨configureCtrl (cfgOtherWord s.cfg) s.ctrl, setModeSel s.cfg.modeMulti s.mode, clearAll s.incoming,
    fifoClear s.outgoing, ?_, ctrlConfigured_configureCtrl hc _, modeSelected_setModeSel _ _,
    ringCleared_clearAll _ _, ringCleared_fifoClear _ _⟩
  have needed : resetNeeded { s with locked := true } = true := resetNeeded_iff.mpr hr
  rw [exec_pass (i := .evTimer) trivial hl he, guardedBody, timerBody_reset needed, resetFaults]
  simp only [transportErrorReported_iff, stallReported_iff, ← List.append_assoc]
  rw [List.append_cons s.trace]
  rfl

/-- Settles O32: `next_out` is the queue's pop. -/
theorem primarySendsAtTimerTick : Obligations.PrimarySendsAtTimerTick := by
  intro s hl he hw noError noStall primary ready idle
  obtain ⟨word, rest⟩ := fifoPop_eq_queuePop hw.2
  refine ⟨_, _, ?_, ctrlStarted_setCtrlStart s.ctrl, rest, fifoPop_mem⟩
  have noReset : resetNeeded { s with locked := true } = false := resetNeeded_eq_false noError noStall
  have send : sendNow { s with locked := true } = true := sendNow_iff.mpr ⟨primary, ready, idle⟩
  rw [exec_pass (i := .evTimer) trivial hl he, guardedBody, timerBody_send noReset send, outbox, ← word]
  rfl

/-- Settles O33. -/
theorem timerTickIdles : Obligations.TimerTickIdles := by
  intro s hl he noError noStall cause
  have noReset : resetNeeded { s with locked := true } = false := resetNeeded_eq_false noError noStall
  have noSend : sendNow { s with locked := true } = false := by
    rw [Bool.eq_false_iff, ne_eq, sendNow_iff]
    rintro ⟨primary, ready, idle⟩
    simp [primary, ready, idle] at cause
  rw [exec_pass (i := .evTimer) trivial hl he, guardedBody, timerBody_idle noReset noSend]
  rfl

/-! ### A stalled transport -/

/-- `n` frame-sync ticks without a serial event took `s` to `t`: they counted, and touched nothing else but the response
and the ghost list. -/
def MissedFrames (s : State) (n : Nat) (t : State) : Prop :=
  ∃ (c : BitVec 8) (r : Word) (ab : List AbsorbedFault),
    c.toNat = n ∧ t = { s with irqTimeout := c, resp := r, absorbed := ab }

section
variable {s : State} (hl : s.locked = false) (he : s.enabled = true) (hf : s.irqFlag = false)
include hl he hf

/-- One more frame-sync tick, with its RETIRE, counts one more frame while the count fits eight bits. -/
theorem MissedFrames.succ {t : State} {n : Nat} (h : MissedFrames s n t) (hn : n < 255) :
    MissedFrames s (n + 1) (windowState .evFrameSync t) := by
  obtain ⟨c, r, ab, count, rfl⟩ := h
  have guard : guardPasses { s with irqTimeout := c, resp := r, absorbed := ab } = true :=
    guardPasses_iff.mpr ⟨hl, he⟩
  refine ⟨bumpStaleness c, 0x0000, [], ?_, ?_⟩
  · rw [bumpStaleness_toNat, count]
    omega
  · rw [windowState_pass (i := .evFrameSync) trivial guard]
    simp [guardedBody, frameSyncBody, respond, hl, hf]

theorem MissedFrames.iterate (h0 : s.irqTimeout = 0) :
    ∀ n ≤ 255, MissedFrames s n ((windowState .evFrameSync)^[n] s) := by
  intro n
  induction n with
  | zero => exact fun _ => ⟨s.irqTimeout, s.resp, s.absorbed, congrArg BitVec.toNat h0, rfl⟩
  | succ n ih =>
    intro hn
    rw [Function.iterate_succ_apply']
    exact (ih (by omega)).succ hl he hf (by omega)

end

theorem presentLabels_append {ls : List StepLabel} (ms : List StepLabel) {s t : State}
    (h : presentLabels ls s = .next t) : presentLabels (ls ++ ms) s = presentLabels ms t := by
  induction ls generalizing s with
  | nil =>
    cases h
    rfl
  | cons l ls ih =>
    obtain ⟨u, first, rest⟩ := presentLabels_cons_iff.mp h
    rw [List.cons_append, presentLabels, first]
    exact ih rest

/-- The timer tick after `n` missed frames runs its body in a state that differs from the first in the count, the
response and the ghost list only, the lock taken. -/
theorem timerTick_of_missedFrames {s : State} (hl : s.locked = false) (he : s.enabled = true) (hf : s.irqFlag = false)
    (h0 : s.irqTimeout = 0) {n : Nat} (hn : n ≤ 255) :
    ∃ (c : BitVec 8) (r : Word), c.toNat = n ∧
      presentLabels ((List.replicate n [.req 0x80000, .retire]).flatten ++ [.req 0xA0000]) s =
        .next (timerBody { s with locked := true, irqTimeout := c, resp := r, absorbed := [] }) := by
  obtain ⟨c, r, ab, count, ht⟩ := MissedFrames.iterate hl he hf h0 n hn
  have ticks : presentLabels (List.replicate n [.req 0x80000, .retire]).flatten s =
      .next ((windowState .evFrameSync)^[n] s) := presentLabels_replicate_window (decode_encode .evFrameSync) n s
  refine ⟨c, r, count, ?_⟩
  rw [presentLabels_append _ ticks]
  refine presentLabels_cons_iff.mpr ⟨_, ?_, rfl⟩
  refine (performRequest_decoded (decode_encode .evTimer) _).trans ?_
  rw [ht]
  exact exec_pass (i := .evTimer) trivial hl he

/-- Settles O57: the ticks count up to one past the threshold, where the timer tick forces the reset; at the threshold
it sends or idles, and neither writes the count, the inbound queues or the counters. -/
theorem stallForcesReset : Obligations.StallForcesReset := by
  intro s hs hl he hf h0
  have bound : s.cfg.tickThreshold ≤ 254 := by
    have legal := hs.legal
    simp only [Config.legal, Config.tickThresholdLegal, Bool.and_eq_true, decide_eq_true_eq] at legal
    omega
  constructor
  · obtain ⟨c, r, count, run⟩ := timerTick_of_missedFrames hl he hf h0 (n := s.cfg.tickThreshold + 1) (by omega)
    refine ⟨_, run, ?_⟩
    rw [timerBody_reset (resetNeeded_iff.mpr (.inr (by simp [count])))]
    refine ⟨sessionAtReset_of_resetSession_eq rfl, ?link, he, rfl, ?start, ?trace⟩
    case link => exact (linkConfigured_forcedReset (s := s) hs.legal).of_linkFields_eq rfl
    case start => exact (ctrlConfigured_configureCtrl hs.legal s.ctrl).start
    case trace => simp
  · intro noError
    obtain ⟨c, r, count, run⟩ := timerTick_of_missedFrames hl he hf h0 (n := s.cfg.tickThreshold) (by omega)
    refine ⟨_, run, ?_⟩
    have noReset : resetNeeded { s with locked := true, irqTimeout := c, resp := r, absorbed := [] } = false :=
      resetNeeded_eq_false noError count.le
    obtain ⟨kept, incoming, timeouts⟩ := timerBody_inbound noReset
    exact ⟨(congrArg BitVec.toNat kept).trans count, incoming, timeouts⟩

end Sys2Proof.Machine
end

section
/-! The application operations: what each guarded one answers and writes, what one that fails the guard leaves, and runs
of SENDs and of READ_MESSAGEs, each with its RETIRE (spec/45_app_operations.md R236 to R240; spec/40_fifo.md R121 to
R124, R128). -/

namespace Sys2Proof.Machine

/-! ### Outside the guard -/

/-- Settles O10: the issue of a guarded operation that fails the guard is the skip. -/
theorem skippedRequestDoesNothing : Obligations.SkippedRequestDoesNothing := by
  intro i s hi h
  have closed : guardPasses s = false := by rcases h with h | h <;> simp [guardPasses, h]
  rw [exec_eq_next, requestState_guarded hi, issue_skip _ closed]

/-! ### What the bodies leave -/

theorem isRealValue_iff {v : Word} : isRealValue v = true ↔ v ≠ disconnectedWord ∧ v ≠ noDataWord := by
  simp [isRealValue, isSentinel]

theorem ringFull_iff {C : Nat} {q : Ring} : ringFull C q = true ↔ C ≤ (ringAbs C q).length := by
  rw [ringAbs_length, ringFull, decide_eq_true_eq]

/-- SEND of a real value writes `outgoing`, the response and the ghost list (spec/45_app_operations.md R237). -/
theorem sendBody_real {v : Word} (hv : isRealValue v = true) (s : State) :
    sendBody v s = { s with
      outgoing := fifoPush s.cfg.queueCapacity s.outgoing v, resp := 0x0000,
      absorbed := s.absorbed ++ if s.cfg.queueCapacity ≤ (outbox s).length then [.overflow] else [] } := by
  rcases sendBody_cases v s with ⟨sentinel, -⟩ | ⟨-, h⟩
  · simp [isRealValue, sentinel] at hv
  · simp only [h, pushOutgoing, absorbIf_eq, ringFull_iff]
    rfl

theorem zext16_connected (s : State) :
    zext16 (connected s) =
      if 1 < s.playerCount.toNat ∧ s.currentPlayerId.toNat < s.playerCount.toNat then 0x0001 else 0x0000 := by
  simp [zext16, connected, connectedFields]

theorem zext16_not_fifoEmpty (C : Nat) (q : Ring) :
    zext16 (!fifoEmpty q) = if ringAbs C q = [] then 0x0000 else 0x0001 := by
  cases he : fifoEmpty q with
  | true => rw [if_pos (fifoEmpty_iff.mp he)]; rfl
  | false => rw [if_neg fun h => Bool.eq_false_iff.mp he (fifoEmpty_iff.mpr h)]; rfl

/-! ### The operations -/

/-- Settles O37. -/
theorem isConnectedAnswer : Obligations.IsConnectedAnswer := by
  intro s hl he
  rw [exec_pass (i := .isConnected) trivial hl he, ← zext16_connected]
  rfl

/-- Settles O39. -/
theorem hasMessageAnswer : Obligations.HasMessageAnswer := by
  intro s p hl he
  rw [exec_pass (i := .hasMessage p) trivial hl he, inbox, ← zext16_not_fifoEmpty]
  rfl

/-- Settles O35: the push of the ring is the push of the sequence, and writes one storage word. -/
theorem sendQueuesRealValue : Obligations.SendQueuesRealValue := by
  intro s v hl he hw hd h0
  refine ⟨fifoPush s.cfg.queueCapacity s.outgoing v, ?_, ringAbs_push_eq_queuePush hw.2 v, fifoPush_wf hw.2 v,
    fun j hj => fifoPush_mem_other v j hj⟩
  rw [exec_pass (i := .send v) trivial hl he, guardedBody, sendBody_real (isRealValue_iff.mpr ⟨hd, h0⟩)]
  rfl

/-- An answer from a queue of real values tells whether the queue was empty (spec/40_fifo.md R124). -/
theorem queuePop_answer_of_noSentinel {xs : List Word} (h : NoSentinel xs) :
    ((queuePop xs).1 = noDataWord ↔ xs = []) ∧ (queuePop xs).1 ≠ disconnectedWord := by
  cases xs with
  | nil => exact ⟨⟨fun _ => rfl, fun _ => rfl⟩, by decide⟩
  | cons x xs =>
    obtain ⟨hd, h0⟩ := isRealValue_iff.mp (h x (.head xs))
    exact ⟨⟨fun hx => absurd hx h0, fun hx => nomatch hx⟩, hd⟩

/-- Settles O40: the pop of the ring is the pop of the sequence, and writes no storage word. -/
theorem readMessageResult : Obligations.ReadMessageResult := by
  intro s p hl he hw
  obtain ⟨word, rest⟩ := fifoPop_eq_queuePop (hw.1 p)
  refine ⟨slotSet s.incoming p (fifoPop s.cfg.queueCapacity (slotGet s.incoming p)).2, ?exec, ?popped, ?storage,
    fun empty => ?empty, fun j hj => slotGet_slotSet_other _ _ _ _ hj,
    fun real => queuePop_answer_of_noSentinel (real.1 p)⟩
  case exec =>
    rw [exec_pass (i := .readMessage p) trivial hl he, inbox, ← word]
    rfl
  case popped => rw [slotGet_slotSet_self, rest, inbox]
  case storage => rw [slotGet_slotSet_self, fifoPop_mem]
  case empty => rw [fifoPop_nil empty, slotSet_slotGet]

/-! ### Runs of SENDs -/

/-- SEND of a real value with its RETIRE. -/
theorem windowState_send {s : State} (hg : guardPasses s = true) {v : Word} (hv : isRealValue v = true) :
    windowState (.send v) s = { s with
      outgoing := fifoPush s.cfg.queueCapacity s.outgoing v, resp := 0x0000, absorbed := [] } := by
  rw [windowState_pass (i := .send v) trivial hg, guardedBody, sendBody_real hv, ← (guardPasses_iff.mp hg).1]

/-- SENDs of real values, each retired, are pushes on `outgoing`, and the guard passes after them as before. -/
theorem presentLabels_sends {vs : List Word} (real : NoSentinel vs) {s : State} (hg : guardPasses s = true) :
    ∃ t, presentLabels (vs.flatMap fun v => [.req (encode (.send v)), .retire]) s = .next t ∧ t.cfg = s.cfg ∧
      t.outgoing = (runRing s.cfg.queueCapacity (vs.map .push) s.outgoing).2 ∧ guardPasses t = true := by
  induction vs generalizing s with
  | nil => exact ⟨s, rfl, rfl, rfl, hg⟩
  | cons v vs ih =>
    obtain ⟨hv, hvs⟩ := List.forall_mem_cons.mp real
    obtain ⟨t, run, cfg, outgoing, guard⟩ := ih hvs (guardPasses_windowState (i := .send v) trivial hg)
    rw [windowState_send hg hv] at cfg outgoing
    exact ⟨t, (presentLabels_window (decode_encode (.send v)) _ s).trans run, cfg, outgoing, guard⟩

/-- Settles O41: the SENDs are pushes on an empty ring. -/
theorem sendsKeepMostRecent : Obligations.SendsKeepMostRecent := by
  intro vs s hs hl he empty real
  obtain ⟨t, run, cfg, outgoing, guard⟩ := presentLabels_sends real (guardPasses_iff.mpr ⟨hl, he⟩)
  refine ⟨t, run, ?_, (guardPasses_iff.mp guard).1⟩
  rw [outbox, cfg, outgoing]
  exact (pushesKeepMostRecent _ vs _ hs.rings.2 empty).1

/-! ### Runs of READ_MESSAGEs -/

theorem StorageInv.windowState {s : State} (hs : StorageInv s) (i : Instr) : StorageInv (windowState i s) := by
  have start : StorageInv { s with absorbed := [] } := hs.of_storageFields_eq rfl
  rw [Machine.windowState, retire_spec]
  exact (start.requestState i).of_storageFields_eq rfl

/-- READ_MESSAGE is the pop of the sequence (spec/45_app_operations.md R240). -/
theorem readMessageBody_eq_queuePop {s : State} {p : SlotId}
    (hw : ringWf s.cfg.queueCapacity (slotGet s.incoming p) = true) :
    (readMessageBody p s).resp = (queuePop (inbox s p)).1 ∧
      inbox (readMessageBody p s) p = (queuePop (inbox s p)).2 := by
  obtain ⟨word, rest⟩ := fifoPop_eq_queuePop hw
  refine ⟨word, ?_⟩
  rw [inbox, readMessageBody, respond_incoming, slotGet_slotSet_self]
  exact rest

/-- READ_MESSAGE with its RETIRE is the pop of the sequence. -/
theorem windowState_readMessage {s : State} (hg : guardPasses s = true) (hs : StorageInv s) (p : SlotId) :
    (windowState (.readMessage p) s).resp = (queuePop (inbox s p)).1 ∧
      inbox (windowState (.readMessage p) s) p = (queuePop (inbox s p)).2 := by
  rw [windowState_pass (i := .readMessage p) trivial hg]
  exact readMessageBody_eq_queuePop (s := { s with absorbed := [], locked := true }) (hs.incoming p).1

/-- The READ_MESSAGE after `k` retired ones answers the word with `k` before it, and leaves those behind it. -/
theorem presentLabels_reads {p : SlotId} {v : Word} {rest : List Word} (k : Nat) {s : State}
    (hg : guardPasses s = true) (hs : StorageInv s) (hq : (inbox s p).drop k = v :: rest) :
    ∃ t, presentLabels ((List.replicate k [.req (encode (.readMessage p)), .retire]).flatten ++
        [.req (encode (.readMessage p))]) s = .next t ∧ t.resp = v ∧ inbox t p = rest := by
  have decoded : decode (encode (.readMessage p)) = .ok (.readMessage p) := decode_encode _
  induction k generalizing s with
  | zero =>
    obtain ⟨hl, he⟩ := guardPasses_iff.mp hg
    have run : presentLabel (.req (encode (.readMessage p))) s =
        .next (readMessageBody p { s with absorbed := [], locked := true }) :=
      (performRequest_decoded decoded _).trans (exec_pass (i := .readMessage p) trivial hl he)
    have answer := readMessageBody_eq_queuePop (s := { s with absorbed := [], locked := true }) (hs.incoming p).1
    have held : inbox { s with absorbed := [], locked := true } p = v :: rest := hq
    rw [held] at answer
    exact ⟨_, presentLabels_cons_iff.mpr ⟨_, run, rfl⟩, answer⟩
  | succ k ih =>
    have popped : (inbox (windowState (.readMessage p) s) p).drop k = v :: rest := by
      rw [(windowState_readMessage hg hs p).2, ← hq]
      cases inbox s p with
      | nil => exact List.drop_nil
      | cons => rfl
    have guard := guardPasses_windowState (i := .readMessage p) trivial hg
    obtain ⟨t, run, answer⟩ := ih guard (hs.windowState _) popped
    exact ⟨t, (presentLabels_window decoded _ s).trans run, answer⟩

/-- Settles O42. -/
theorem readsDrainInOrder : Obligations.ReadsDrainInOrder := fun _ _ k h hs hl he =>
  presentLabels_reads k (guardPasses_iff.mpr ⟨hl, he⟩) hs (List.drop_eq_getElem_cons h)

end Sys2Proof.Machine
end

section
/-! Delivery on the reference transport: what a round of timer tick, exchange and READ_MESSAGE does at a primary that is
ready to send and at a secondary that has read everything (spec/45_app_operations.md R242; spec/42_sync_mux.md R175;
log 22). -/

namespace Sys2Proof.Machine

/-! ### Lines of a script with several devices -/

/-- A request line outside a window runs the request and its RETIRE (spec/30_encoding.md R108). -/
theorem runScriptLine_request {r : AsmRequest} {i : Instr} (hr : assembleInstr r = some i) {s : State}
    (hl : s.locked = false) : runScriptLine (.request r) s = some (windowState i s) := by
  have run : presentLabels [.req (encode i), .retire] s = .next (windowState i s) :=
    presentLabels_window (decode_encode i) [] s
  simp [runScriptLine, scriptLabels, assembleWord, windowLabels, hr, hl, run]

/-- A device after a request and its RETIRE. -/
def windowDevice (i : Instr) (d : Device) : Device := { d with state := windowState i d.state }

section
variable {r : AsmRequest} {i : Instr} (hr : assembleInstr r = some i) {d e : Device} (hne : d.id ≠ e.id)
include hr hne

/-- A line for the first of two devices leaves the second alone. -/
theorem runLinkLine_first (hl : d.state.locked = false) :
    runLinkLine (.device d.id (.request r)) [d, e] = some [windowDevice i d, e] := by
  simp [runLinkLine, runScriptLine_request hr hl, hne.symm, windowDevice]

/-- A line for the second of two devices leaves the first alone. -/
theorem runLinkLine_second (hl : e.state.locked = false) :
    runLinkLine (.device e.id (.request r)) [d, e] = some [d, windowDevice i e] := by
  simp [runLinkLine, runScriptLine_request hr hl, hne, windowDevice]

end

/-- A device after an exchange. -/
def exchangedDevice (ws : Slots Word) (d : Device) : Device := { d with state := exchangedState ws d }

/-- The exchange of a primary that started it with one secondary (spec/42_sync_mux.md R175). -/
theorem runLinkLine_xchg {p q : Device} (hp : p.id = 0) (hq : q.id ≠ 0) (start : ctrlStart p.state.ctrl = true) :
    runLinkLine .xchg [p, q] =
      some [exchangedDevice (exchangeWords [p, q]) p, exchangedDevice (exchangeWords [p, q]) q] := by
  refine exchange_eq_some_iff.mpr ⟨?_, rfl⟩
  simpa [exchangeReady, hp, start] using hq.symm

/-- In slot 0 every device reads what the primary sent (spec/42_sync_mux.md R175). -/
theorem exchangeWords_primary {p : Device} (hp : p.id = 0) (ds : List Device) :
    slotGet (exchangeWords (p :: ds)) 0 = p.state.txdata := by
  change exchangeWord (p :: ds) 0 = _
  simp [exchangeWord, hp]

/-! ### What a serial-complete tick leaves -/

theorem serialBody_irqTimeout (s : State) : (serialBody s).irqTimeout = 0 := by
  obtain ⟨tos, inc, ab, h, -, -⟩ := serialBody_spec s
  obtain ⟨out, tx, tr, reply⟩ := secondaryReply_eq _
  rw [h, reply]
  rfl

theorem serialBody_currentPlayerId (s : State) : (serialBody s).currentPlayerId = ctrlId s.ctrl := by
  obtain ⟨tos, inc, ab, h, -, -⟩ := serialBody_spec s
  obtain ⟨out, tx, tr, reply⟩ := secondaryReply_eq _
  rw [h, reply]
  rfl

/-- A primary loads no reply (spec/44_event_handlers.md R212). -/
theorem serialBody_outgoing_of_primary {s : State} (primary : ctrlSecondary s.ctrl = false) :
    (serialBody s).outgoing = s.outgoing := by
  obtain ⟨tos, inc, ab, h, -, -⟩ := serialBody_spec s
  rw [h]
  rcases secondaryReply_cases _ with ⟨role, reply⟩ | ⟨role, reply⟩ <;> rw [reply]
  · exact absurd (primary.symm.trans role) (by decide)
  · rfl

section
variable {s : State} (hg : guardPasses s = true)
include hg

theorem windowState_evSerial_cfg : (windowState .evSerial s).cfg = s.cfg := by
  rw [windowState_pass (i := .evSerial) trivial hg]
  exact (bodyFrame_serialBody _).cfg

theorem windowState_evSerial_irqTimeout : (windowState .evSerial s).irqTimeout = 0 := by
  rw [windowState_pass (i := .evSerial) trivial hg]
  exact serialBody_irqTimeout _

theorem windowState_evSerial_currentPlayerId : (windowState .evSerial s).currentPlayerId = ctrlId s.ctrl := by
  rw [windowState_pass (i := .evSerial) trivial hg]
  exact serialBody_currentPlayerId _

theorem windowState_evSerial_outgoing_of_primary (primary : ctrlSecondary s.ctrl = false) :
    (windowState .evSerial s).outgoing = s.outgoing := by
  rw [windowState_pass (i := .evSerial) trivial hg]
  exact serialBody_outgoing_of_primary primary

theorem windowState_evSerial_incoming (i : SlotId) :
    slotGet (windowState .evSerial s).incoming i =
      queueAfter s.cfg.queueCapacity s.cfg.remoteTimeout (i = s.currentPlayerId) (slotGet s.rxslot i)
        (slotGet s.timeouts i) (slotGet s.incoming i) := by
  rw [windowState_pass (i := .evSerial) trivial hg]
  exact serialBody_incoming _ i

end

/-- A read from a queue that was empty before the tick answers the word the tick found, `NO_DATA` included, and leaves
the queue empty (spec/44_event_handlers.md R208, spec/40_fifo.md R124). -/
theorem queuePop_queueAfter_of_empty {C remoteTimeout : Nat} {w : Word} {t : Timeout} {q : Ring}
    (hw : ringWf C q = true) (empty : ringAbs C q = []) (hd : w ≠ disconnectedWord) :
    queuePop (ringAbs C (queueAfter C remoteTimeout false w t q)) = (w, []) := by
  by_cases h0 : w = noDataWord
  · rw [h0, queueAfter_noData, empty]
    rfl
  · rw [queueAfter_real _ _ _ _ _ hd h0, if_neg Bool.false_ne_true, ringAbs_push_eq_queuePush hw, empty, queuePush]
    split <;> rfl

/-! ### One device in an exchange -/

/-- The block of a device when the transport has written its inputs in an exchange. -/
def transportWritten (ws : Slots Word) (d : Device) : State :=
  envStep (exchangeUpdate ws d) { d.state with absorbed := [] }

section
variable (ws : Slots Word) {d : Device} (hg : guardPasses d.state = true)
include hg

theorem exchangedState_pass : exchangedState ws d = windowState .evSerial (transportWritten ws d) := by
  simp only [exchangedState, (guardPasses_iff.mp hg).1, Bool.false_eq_true, if_false, transportWritten]

theorem guardPasses_transportWritten : guardPasses (transportWritten ws d) = true := hg

theorem guardPasses_exchangedState : guardPasses (exchangedState ws d) = true := by
  rw [exchangedState_pass ws hg]
  exact guardPasses_windowState (i := .evSerial) trivial hg

theorem storageInv_exchangedState (hs : StorageInv d.state) : StorageInv (exchangedState ws d) := by
  have written : StorageInv (transportWritten ws d) := hs.of_storageFields_eq rfl
  rw [exchangedState_pass ws hg]
  exact written.windowState _

end

/-! ### The primary -/

/-- A primary that sends at its next timer tick, with the words `vs` queued. -/
structure ReadyToSend (vs : List Word) (p : Device) : Prop where
  id : p.id = 0
  storage : StorageInv p.state
  guard : guardPasses p.state = true
  noReset : resetNeeded p.state = false
  send : sendNow p.state = true
  queued : outbox p.state = vs

/-- The timer tick starts an exchange of the oldest word queued. -/
theorem ReadyToSend.tick {vs : List Word} {p : Device} (h : ReadyToSend vs p) :
    ctrlStart (windowState .evTimer p.state).ctrl = true ∧
      (windowState .evTimer p.state).txdata = (queuePop vs).1 ∧
      outbox (windowState .evTimer p.state) = (queuePop vs).2 := by
  obtain ⟨word, rest⟩ := fifoPop_eq_queuePop h.storage.rings.2
  have noReset : resetNeeded { p.state with absorbed := [], locked := true } = false := h.noReset
  have send : sendNow { p.state with absorbed := [], locked := true } = true := h.send
  rw [windowState_pass (i := .evTimer) trivial h.guard, guardedBody, timerBody_send noReset send, ← h.queued]
  exact ⟨ctrlStart_setCtrlStart true _, word, rest⟩

/-- An exchange leaves every primary ready to send what it still has queued: idle, with no error and the staleness
counter at zero (spec/42_sync_mux.md R175, spec/44_event_handlers.md R207). -/
theorem readyToSend_exchangedDevice (ws : Slots Word) {p : Device} (hp : p.id = 0) (hs : StorageInv p.state)
    (hg : guardPasses p.state = true) : ReadyToSend (outbox p.state) (exchangedDevice ws p) := by
  have ctrl := (exchangedState_registers ws p).1
  have written := guardPasses_transportWritten ws hg
  refine ⟨hp, storageInv_exchangedState ws hg hs, guardPasses_exchangedState ws hg, ?noReset, ?send, ?queued⟩
  case noReset =>
    have fresh : (exchangedState ws p).irqTimeout = 0 := by
      rw [exchangedState_pass ws hg, windowState_evSerial_irqTimeout written]
    refine resetNeeded_eq_false ?_ ?_
    · simp [exchangedDevice, ctrl, exchangeUpdate, standingEnv]
    · simp [exchangedDevice, fresh]
  case send => simp [sendNow_iff, exchangedDevice, ctrl, exchangeUpdate, standingEnv, hp]
  case queued =>
    have primary : ctrlSecondary (transportWritten ws p).ctrl = false := by
      simp [transportWritten, envStep, exchangeUpdate, standingEnv, hp]
    rw [outbox, exchangedDevice, exchangedState_pass ws hg, windowState_evSerial_cfg written,
      windowState_evSerial_outgoing_of_primary written primary]
    rfl

/-! ### The secondary -/

/-- A secondary that has its id and has read every word from slot 0. -/
structure AllRead (q : Device) : Prop where
  id : q.id ≠ 0
  storage : StorageInv q.state
  guard : guardPasses q.state = true
  ownId : q.state.currentPlayerId = q.id
  read : inbox q.state 0 = []

section
variable {ws : Slots Word} {q : Device} (h : AllRead q)
include h

/-- After the exchange the next read from slot 0 takes the word the primary sent. -/
theorem AllRead.exchanged (hd : slotGet ws 0 ≠ disconnectedWord) :
    queuePop (inbox (exchangedState ws q) 0) = (slotGet ws 0, []) := by
  have written := guardPasses_transportWritten ws h.guard
  have other : decide (0 = (transportWritten ws q).currentPlayerId) = false :=
    decide_eq_false fun own => h.id (own.trans h.ownId).symm
  rw [exchangedState_pass ws h.guard, inbox, windowState_evSerial_cfg written, windowState_evSerial_incoming written,
    other]
  exact queuePop_queueAfter_of_empty (h.storage.incoming 0).1 h.read hd

/-- The id is read again from the transport, which keeps it. -/
theorem AllRead.exchanged_ownId : (exchangedState ws q).currentPlayerId = q.id := by
  rw [exchangedState_pass ws h.guard, windowState_evSerial_currentPlayerId (guardPasses_transportWritten ws h.guard)]
  simp [transportWritten, envStep, exchangeUpdate, standingEnv]

/-- The READ_MESSAGE after an exchange answers the word the primary sent, and the secondary has read everything
again. -/
theorem AllRead.readAfterExchange (hd : slotGet ws 0 ≠ disconnectedWord) :
    (windowState (.readMessage 0) (exchangedState ws q)).resp = slotGet ws 0 ∧
      AllRead (windowDevice (.readMessage 0) (exchangedDevice ws q)) := by
  have guard := guardPasses_exchangedState ws h.guard
  have storage := storageInv_exchangedState ws h.guard h.storage
  obtain ⟨resp, left⟩ := windowState_readMessage guard storage 0
  rw [h.exchanged hd] at resp left
  refine ⟨resp, h.id, storage.windowState _, guardPasses_windowState (i := .readMessage 0) trivial guard, ?_, left⟩
  refine Eq.trans ?_ (h.exchanged_ownId (ws := ws))
  rw [windowDevice, exchangedDevice, windowState_pass (i := .readMessage 0) trivial guard]
  rfl

end

/-! ### Rounds -/

section
variable (p q : Device)

/-- The words of the exchange of a round. -/
def roundWords : Slots Word := exchangeWords [windowDevice .evTimer p, q]

/-- The primary after a round. -/
def primaryAfterRound : Device := exchangedDevice (roundWords p q) (windowDevice .evTimer p)

/-- The secondary after a round. -/
def secondaryAfterRound : Device := windowDevice (.readMessage 0) (exchangedDevice (roundWords p q) q)

end

/-- A round of a timer tick that starts an exchange, the exchange, and the READ_MESSAGE. -/
theorem deliveryRound_eq {p q : Device} (hp : p.id = 0) (hq : q.id ≠ 0) (gp : guardPasses p.state = true)
    (gq : guardPasses q.state = true) (start : ctrlStart (windowState .evTimer p.state).ctrl = true) :
    deliveryRound q.id [p, q] =
      some ((secondaryAfterRound p q).state.resp, [primaryAfterRound p q, secondaryAfterRound p q]) := by
  have ne : p.id ≠ q.id := hp.trans_ne hq.symm
  have tick : runLinkLine (.device 0 (.request ⟨.evTimer, none⟩)) [p, q] = some [windowDevice .evTimer p, q] := by
    rw [← hp]
    exact runLinkLine_first rfl ne (guardPasses_iff.mp gp).1
  have xchg : runLinkLine .xchg [windowDevice .evTimer p, q] =
      some [primaryAfterRound p q, exchangedDevice (roundWords p q) q] := runLinkLine_xchg hp hq start
  have read : runLinkLine (.device q.id (.request ⟨.readMessage, some 0⟩))
      [primaryAfterRound p q, exchangedDevice (roundWords p q) q] =
        some [primaryAfterRound p q, secondaryAfterRound p q] :=
    runLinkLine_second (e := exchangedDevice (roundWords p q) q) rfl ne
      (guardPasses_iff.mp (guardPasses_exchangedState _ gq)).1
  have reader : [primaryAfterRound p q, secondaryAfterRound p q].find? (fun d => d.id = q.id) =
      some (secondaryAfterRound p q) := by
    simp [primaryAfterRound, secondaryAfterRound, windowDevice, exchangedDevice, ne]
  simp only [deliveryRound, tick, xchg, read, reader, Option.bind_some, Option.map_some]

/-- A round delivers the oldest word queued, `NO_DATA` from an empty queue, and leaves both devices ready for the
next. -/
theorem deliveryRound_ready {vs : List Word} {p q : Device} (hp : ReadyToSend vs p) (hq : AllRead q) :
    deliveryRound q.id [p, q] = some ((queuePop vs).1, [primaryAfterRound p q, secondaryAfterRound p q]) ∧
      ReadyToSend (queuePop vs).2 (primaryAfterRound p q) ∧ AllRead (secondaryAfterRound p q) := by
  obtain ⟨start, sent, left⟩ := hp.tick
  have word : slotGet (roundWords p q) 0 = (queuePop vs).1 :=
    (exchangeWords_primary (p := windowDevice .evTimer p) hp.id [q]).trans sent
  have connected : slotGet (roundWords p q) 0 ≠ disconnectedWord := by
    have real : NoSentinel vs := hp.queued ▸ hp.storage.real.2
    rw [word]
    exact (queuePop_answer_of_noSentinel real).2
  obtain ⟨answer, allRead⟩ := hq.readAfterExchange connected
  refine ⟨?round, ?ready, allRead⟩
  case round =>
    rw [deliveryRound_eq hp.id hq.id hp.guard hq.guard start, ← word, ← answer]
    rfl
  case ready =>
    rw [← left]
    exact readyToSend_exchangedDevice (p := windowDevice .evTimer p) _ hp.id (hp.storage.windowState _)
      (guardPasses_windowState (i := .evTimer) trivial hp.guard)

/-- The rounds deliver the words queued one by one, and then `NO_DATA`. -/
theorem deliveryRounds_ready (vs : List Word) {p q : Device} (hp : ReadyToSend vs p) (hq : AllRead q) :
    deliveryRounds q.id (vs.length + 1) [p, q] = some (vs ++ [noDataWord]) := by
  induction vs generalizing p q with
  | nil =>
    rw [deliveryRounds, (deliveryRound_ready hp hq).1]
    rfl
  | cons v vs ih =>
    obtain ⟨round, hp', hq'⟩ := deliveryRound_ready hp hq
    have later : deliveryRounds q.id (vs.length + 1) [primaryAfterRound p q, secondaryAfterRound p q] =
        some (vs ++ [noDataWord]) := ih hp' hq'
    rw [List.length_cons, deliveryRounds, round, Option.bind_some, later]
    rfl

/-- Settles O60: the first round finds the primary ready to send and the secondary with nothing unread. -/
theorem queuedValuesAreDeliveredInOrder : Obligations.QueuedValuesAreDeliveredInOrder := by
  intro p q vs hp hq sp sq gp gq primary ready noError idle noStall ownId empty queued
  have noReset : resetNeeded p.state = false := by
    simp [resetNeeded, transportErrorReported, noError, noStall]
  exact deliveryRounds_ready vs ⟨hp, sp, gp, noReset, sendNow_iff.mpr ⟨primary, ready, idle⟩, queued⟩
    ⟨hq, sq, gq, ownId, empty⟩

end Sys2Proof.Machine
end

section
/-! The absorbed faults (spec/60_exceptions.md R290 to R299, R319, R322): how the trace tells a forced reset, what a
request does while Inactive, what a dropped sentinel leaves, and that no operation reads the ghost list. -/

namespace Sys2Proof.Machine

/-! ### A forced reset in the trace -/

/-- The output events of a timer tick that passes the guard (spec/44_event_handlers.md R215). -/
def timerEvents (s : State) : List OutEvent :=
  if resetNeeded s = true then [.transportConfig s.cfg.modeMulti, .timerStart]
  else if sendNow s = true then [.exchangeStart (nextOut s).1]
  else []

theorem timerBody_trace (s : State) : (timerBody s).trace = s.trace ++ timerEvents s := by
  rcases timerBody_cases s with ⟨hr, ab, h⟩ | ⟨hr, hn, h⟩ | ⟨hr, hn, h⟩
  · rw [h, timerEvents, if_pos hr, List.append_cons]
    rfl
  · rw [h, timerEvents, if_neg (Bool.eq_false_iff.mp hr), if_pos hn]
    rfl
  · rw [h, timerEvents, if_neg (Bool.eq_false_iff.mp hr), if_neg (Bool.eq_false_iff.mp hn), List.append_nil]
    rfl

/-- Of the three outcomes of the tick only the forced reset configures the transport. -/
theorem transportConfig_mem_timerEvents (s : State) (sel : BitVec 2) :
    .transportConfig sel ∈ timerEvents s ↔ sel = s.cfg.modeMulti ∧ resetNeeded s = true := by
  unfold timerEvents
  split_ifs with reset <;> simp [reset]

/-- Settles O34: a skipped tick has no events, and one that passes the guard has `timerEvents`. -/
theorem traceShowsForcedReset : Obligations.TraceShowsForcedReset := by
  intro s
  cases hg : guardPasses s with
  | false =>
    have skipped : exec .evTimer s = .next (skip s) := (exec_eq_next .evTimer s).trans (congrArg _ (issue_skip _ hg))
    exact ⟨skip s, [], skipped, (List.append_nil _).symm, by simp⟩
  | true =>
    refine ⟨timerBody { s with locked := true }, timerEvents { s with locked := true }, ?run, timerBody_trace _, ?iff⟩
    case run => rw [exec_eq_next, requestState_pass (i := .evTimer) trivial hg, guardedBody]
    case iff =>
      have same : resetNeeded { s with locked := true } = resetNeeded s := rfl
      simp [transportConfig_mem_timerEvents, same]

/-! ### A request while Inactive -/

/-- Where the guard does not pass, NOP and every guarded operation only answer (spec/42_sync_mux.md R159). -/
theorem onlyAnswers_requestState_of_closed {i : Instr} {s : State} (closed : guardPasses s = false)
    (ha : i ≠ .activate) (hd : i ≠ .deactivate) : OnlyAnswers s (requestState i s) := by
  revert ha hd
  refine requestState_cases (P := fun j t => j ≠ .activate → j ≠ .deactivate → OnlyAnswers s t) ?nop
    (fun ha => absurd rfl ha) (fun _ hd => absurd rfl hd) ?guarded i
  case nop => exact fun _ _ => ⟨_, s.absorbed, rfl⟩
  case guarded => exact fun _ _ _ _ => ⟨_, _, issue_skip _ closed⟩

/-- With `enabled = 0` every request word but the two lifecycle words only answers, a reserved one too. -/
theorem onlyAnswers_performRequest_of_inactive {w : ReqWord} {s : State} (he : s.enabled = false)
    (ha : w ≠ encode .activate) (hd : w ≠ encode .deactivate) :
    ∃ t, performRequest w s = .next t ∧ OnlyAnswers s t := by
  cases hi : decode w with
  | error e => exact ⟨_, performRequest_reserved hi s, _, _, rfl⟩
  | ok i =>
    refine ⟨_, (performRequest_decoded hi s).trans (exec_eq_next i s), ?_⟩
    have word : encode i = w := encode_of_decode hi
    have closed : guardPasses s = false := by simp [guardPasses, he]
    refine onlyAnswers_requestState_of_closed closed ?_ ?_
    · rintro rfl
      exact ha word.symm
    · rintro rfl
      exact hd word.symm

/-- Settles O53: taking the label off writes the model's own queue and counter, and the request only answers. -/
theorem inactiveRequestsChangeNothing : Obligations.InactiveRequestsChangeNothing := by
  intro s w hl he label ha hd
  have inactive : (stepStart s).enabled = false := (stepStart_enabled s).trans he
  obtain ⟨t, run, r, ab, answers⟩ := onlyAnswers_performRequest_of_inactive inactive ha hd
  refine ⟨t, ?next, ?kept⟩
  case next => rw [step_eq_performLabel hl, label, performLabel, run]
  case kept =>
    rw [answers, stepStart_eq]
    exact ⟨by constructor <;> rfl, by constructor <;> rfl, rfl⟩

/-! ### A dropped sentinel -/

theorem isSentinel_iff {v : Word} : isSentinel v = true ↔ v = disconnectedWord ∨ v = noDataWord := by
  simp [isSentinel]

theorem sendBody_sentinel {v : Word} (hv : isSentinel v = true) (s : State) :
    sendBody v s = { s with resp := 0x0000, absorbed := s.absorbed ++ [.sentinelSend] } := by
  rw [sendBody, if_pos hv]
  rfl

/-- Settles O36: the test comes after the guard, in the window the issue has opened. -/
theorem sendDropsSentinel : Obligations.SendDropsSentinel := by
  intro s v hl he hv
  rw [exec_pass (i := .send v) trivial hl he, guardedBody, sendBody_sentinel (isSentinel_iff.mpr hv)]

/-! ### No operation reads the ghost list -/

/-- The state with another ghost list of absorbed faults. -/
def withGhost (g : List AbsorbedFault) (s : State) : State := { s with absorbed := g }

/-- From two states that differ in the ghost list only, `f` goes to two such states: it may append to the list, and
nothing it writes elsewhere depends on it (spec/60_exceptions.md R319). -/
def GhostBlind (f : State → State) : Prop := ∀ g s, ∃ g', f (withGhost g s) = withGhost g' (f s)

theorem GhostBlind.comp {f h : State → State} (hf : GhostBlind f) (hh : GhostBlind h) :
    GhostBlind fun s => f (h s) := by
  intro g s
  obtain ⟨g', e⟩ := hh g s
  obtain ⟨g'', e'⟩ := hf g' (h s)
  exact ⟨g'', (congrArg f e).trans e'⟩

/-- A branch on a condition that does not read the list. -/
theorem GhostBlind.ite {c : State → Bool} {f h : State → State} (hc : ∀ g s, c (withGhost g s) = c s)
    (hf : GhostBlind f) (hh : GhostBlind h) : GhostBlind fun s => if c s = true then f s else h s := by
  intro g s
  simp only [hc]
  split
  · exact hf g s
  · exact hh g s

theorem ghostBlind_respond (v : Word) : GhostBlind (respond v) := fun g _ => ⟨g, rfl⟩

theorem ghostBlind_absorb (f : AbsorbedFault) : GhostBlind (absorb f) := fun g _ => ⟨g ++ [f], rfl⟩

theorem ghostBlind_pushOutgoing (v : Word) : GhostBlind (pushOutgoing v) := by
  intro g s
  simp only [pushOutgoing, absorbIf_eq]
  exact ⟨_, rfl⟩

theorem ghostBlind_sendBody (v : Word) : GhostBlind (sendBody v) :=
  (ghostBlind_respond 0x0000).comp
    (.ite (c := fun _ => isSentinel v) (fun _ _ => rfl) (ghostBlind_absorb _) (ghostBlind_pushOutgoing v))

/-- One slot's tick appends its faults to whatever list stands there. -/
theorem slotTick_withGhost (own i : SlotId) (g : List AbsorbedFault) (s : State) :
    ∃ g', slotTick own i (withGhost g s) = ((slotTick own i s).1, withGhost g' (slotTick own i s).2) := by
  simp only [slotTick_spec]
  exact ⟨_, rfl⟩

theorem slotLoop_withGhost (own : SlotId) (is : List SlotId) (cnt : Nat) (g : List AbsorbedFault) (s : State) :
    ∃ g', slotLoop own is cnt (withGhost g s) =
      ((slotLoop own is cnt s).1, withGhost g' (slotLoop own is cnt s).2) := by
  induction is generalizing cnt g s with
  | nil => exact ⟨g, rfl⟩
  | cons i is ih =>
    obtain ⟨g', tick⟩ := slotTick_withGhost own i g s
    simp only [slotLoop, tick]
    exact ih _ g' _

theorem ghostBlind_secondaryReply : GhostBlind secondaryReply :=
  .ite (c := isSecondary) (f := fun s => loadReply (nextOut s).1 (nextOut s).2) (h := id) (fun _ _ => rfl)
    (fun g _ => ⟨g, rfl⟩) fun g _ => ⟨g, rfl⟩

theorem ghostBlind_serialBody : GhostBlind serialBody := by
  intro g s
  obtain ⟨g', loop⟩ := slotLoop_withGhost s.currentPlayerId slotIds 0 g (noteSerial s)
  have start : slotLoop (withGhost g s).currentPlayerId slotIds 0 (noteSerial (withGhost g s)) = _ := loop
  have count (n : Nat) (u : State) : recount (n, withGhost g' u) = withGhost g' (recount (n, u)) := rfl
  rw [serialBody_eq_slotLoop, serialBody_eq_slotLoop, start, count]
  exact ((ghostBlind_respond 0x0000).comp ghostBlind_secondaryReply) g' _

/-- The two conditions of the timer tick read CTRL and the staleness count; a reset appends its faults to the list. -/
theorem ghostBlind_timerBody : GhostBlind timerBody := by
  intro g s
  have reset : resetNeeded (withGhost g s) = resetNeeded s := rfl
  have send : sendNow (withGhost g s) = sendNow s := rfl
  cases hr : resetNeeded s with
  | true =>
    rw [timerBody_reset hr, timerBody_reset (reset.trans hr)]
    exact ⟨_, rfl⟩
  | false =>
    cases hn : sendNow s with
    | true =>
      rw [timerBody_send hr hn, timerBody_send (reset.trans hr) (send.trans hn)]
      exact ⟨g, rfl⟩
    | false =>
      rw [timerBody_idle hr hn, timerBody_idle (reset.trans hr) (send.trans hn)]
      exact ⟨g, rfl⟩

theorem ghostBlind_guardedBody (i : Instr) : GhostBlind (guardedBody i) := by
  cases i with
  | send v => exact ghostBlind_sendBody v
  | evSerial => exact ghostBlind_serialBody
  | evTimer => exact ghostBlind_timerBody
  | nop | activate | deactivate | isConnected | hasMessage | readMessage | evFrameSync => exact fun g _ => ⟨g, rfl⟩

/-- The guard does not read the list either, and a skip appends to it. -/
theorem GhostBlind.issue {body : State → State} (hb : GhostBlind body) : GhostBlind (issue body) :=
  .ite (c := guardPasses) (fun _ _ => rfl) (hb.comp (h := fun s => { s with locked := true }) fun g _ => ⟨g, rfl⟩)
    ((ghostBlind_respond 0x0000).comp (ghostBlind_absorb .contention))

theorem ghostBlind_requestState (i : Instr) : GhostBlind (requestState i) := by
  cases i with
  | nop | activate | deactivate => exact fun g _ => ⟨g, rfl⟩
  | send | isConnected | hasMessage | readMessage | evFrameSync | evSerial | evTimer =>
    exact (ghostBlind_guardedBody _).issue

theorem ghostBlind_reservedRequest : GhostBlind reservedRequest :=
  (ghostBlind_respond 0x0000).comp (ghostBlind_absorb .reservedRequest)

/-- Every request word is the function of one operation, or that of the reserved words. -/
theorem exists_ghostBlind_performRequest (w : ReqWord) :
    ∃ f, GhostBlind f ∧ ∀ s, performRequest w s = .next (f s) := by
  cases h : decode w with
  | ok i => exact ⟨_, ghostBlind_requestState i, fun s => (performRequest_decoded h s).trans (exec_eq_next i s)⟩
  | error e => exact ⟨_, ghostBlind_reservedRequest, performRequest_reserved h⟩

/-- Settles O56: the two next states differ in the ghost list only. -/
theorem ghostListInfluencesNothing : Obligations.GhostListInfluencesNothing := by
  intro w s g
  obtain ⟨f, blind, run⟩ := exists_ghostBlind_performRequest w
  obtain ⟨g', same⟩ := blind g s
  refine ⟨f s, withGhost g' (f s), run s, ?_, rfl⟩
  rw [← same]
  exact run (withGhost g s)

end Sys2Proof.Machine
end

section
/-! The configuration's legal ranges, and what ACTIVATE reads of the state before it (spec/70_reset_and_hazards.md R335,
R336). -/

namespace Sys2Proof.Machine

/-! ### Configurations outside the ranges (R335) -/

/-- The numeric ranges of a legal configuration. -/
theorem ranges_of_legal {c : Config} (h : c.legal = true) :
    c.tickThreshold ≤ 254 ∧ (1 ≤ c.remoteTimeout ∧ c.remoteTimeout ≤ 254) ∧
      (1 ≤ c.queueCapacity ∧ c.queueCapacity ≤ 255) ∧ c.timerId < c.nTimers := by
  simp only [Config.legal, Bool.and_eq_true] at h
  obtain ⟨⟨⟨⟨⟨tick, remote⟩, capacity⟩, timer⟩, -⟩, -⟩ := h
  simp only [Config.remoteTimeoutLegal, Config.queueCapacityLegal, Bool.and_eq_true, decide_eq_true_eq]
    at remote capacity
  exact ⟨of_decide_eq_true tick, remote, capacity, of_decide_eq_true timer⟩

theorem step_of_not_legal {s : State} (h : ¬ s.cfg.legal = true) : step s = .refused .illegalConfiguration := if_neg h

/-- Settles O16: a legal configuration is inside every range. -/
theorem illegalConfigurationRefused : Obligations.IllegalConfigurationRefused := by
  intro s outside
  refine step_of_not_legal fun legal => ?_
  obtain ⟨tick, remote, capacity, timer⟩ := ranges_of_legal legal
  omega

/-! ### What ACTIVATE reads (R336) -/

/-- A field write reads of the register only the bits outside the field. -/
theorem writeField_congr {m v w w' : Word} (h : w' &&& ~~~m = w &&& ~~~m) : writeField m v w' = writeField m v w :=
  congrArg (· ||| (v &&& m)) h

theorem setModeSel_congr {sel : BitVec 2} {m m' : Word} (low : m' &&& 0x3FFF = m &&& 0x3FFF) :
    setModeSel sel m' = setModeSel sel m :=
  writeField_congr low

/-- The configuration write reads only the transport-owned fields of CTRL: it sets all the others. -/
theorem configureCtrl_congr {c : Config} (hl : c.legal = true) {s s' : State} (h : SameTransportOwned s s') :
    configureCtrl (cfgOtherWord c) s'.ctrl = configureCtrl (cfgOtherWord c) s.ctrl := by
  have conf := ctrlConfigured_configureCtrl hl s.ctrl
  have conf' := ctrlConfigured_configureCtrl hl s'.ctrl
  apply ctrl_ext
  case ho => rw [conf'.other, conf.other]
  case hm => rw [conf'.multi, conf.multi]
  case hs => rw [conf'.start, conf.start]
  case he => rw [conf'.error, conf.error, h.error]
  case hi => rw [conf'.id, conf.id, h.id]
  case hr => rw [conf'.ready, conf.ready, h.ready]
  case hp => rw [conf'.secondary, conf.secondary, h.secondary]

theorem sessionAtReset_activateState (s : State) : SessionAtReset (activateState s) :=
  sessionAtReset_of_resetSession_eq rfl

/-- Of the registers ACTIVATE reads the transport-owned fields, `MODE[13:0]` and `TMR_SEL`; it writes the rest from the
configuration. -/
theorem sameRegisters_activateState {s s' : State} (hl : s.cfg.legal = true) (cfg : s'.cfg = s.cfg)
    (tmrSel : s'.tmrSel = s.tmrSel) (owned : SameTransportOwned s s') (low : s'.mode &&& 0x3FFF = s.mode &&& 0x3FFF) :
    SameRegisters (activateState s) (activateState s') := by
  simp only [activateState_eq, cfg]
  exact
    { ctrl := configureCtrl_congr hl owned
      mode := setModeSel_congr low
      txdata := rfl
      rxslot := owned.rxslot
      tmrSel := tmrSel
      tmrReload := rfl
      tmrEn := rfl
      tmrIrqEn := rfl }

/-- Settles O22: both sessions are at reset, so both hold empty sequences, and the registers agree. -/
theorem activateForgetsThePast : Obligations.ActivateForgetsThePast := by
  intro s s' hl cfg tmrSel owned low
  have reset := sessionAtReset_activateState s
  have reset' := sessionAtReset_activateState s'
  exact ⟨activateState s, activateState s', exec_eq_next .activate s, exec_eq_next .activate s', rfl, rfl, rfl, rfl,
    fun i => (reset'.incoming i).trans (reset.incoming i).symm, reset'.outgoing.trans reset.outgoing.symm, rfl, rfl, rfl,
    sameRegisters_activateState hl cfg tmrSel owned low, rfl⟩

end Sys2Proof.Machine
end
